-- ==== Sys2Proof/Word.lean ====
section
/-! DEFINITION. The words of the Hezvar 4810: the widths its manual gives to positions, sequence numbers, line numbers
and bytes. -/

namespace Sys2Proof

/-- A byte of a transfer, of a LINE packet or of a delivered record (12_formats.md). -/
abbrev Byte := BitVec 8

/-- A web position or a line position: an unsigned 32-bit count that wraps (00_scope.md 5.1). -/
abbrev Position := BitVec 32

/-- A sequence number of the record store: 32 bits, wrapping (R127). -/
abbrev Seq := BitVec 32

/-- A line number: 16 bits, wrapping (00_scope.md 5.3). -/
abbrev LineNo := BitVec 16

/-- A link counter: 16 bits, wrapping (R35). -/
abbrev Counter := BitVec 16

end Sys2Proof
end

