-- ==== Sys2Proof/Syntax.lean ====
section
/-! DEFINITION. The commands of the part: one constructor of `Instr` for each row of spec/opcode_table.json, with the
operands the rules give the row. The part is a block: a command is an event at a pin, a link, a port or a timer, or a
piece of the part's own work that takes time (95_what_each_step_holds.md). -/

namespace Sys2Proof

/-- A face of the web (00_scope.md 5.4). A side of NONE is `none` where a record may hold it. -/
inductive Side where
  | top
  | bottom
  deriving DecidableEq, Repr

/-- A client port (10_client_ports.md). -/
inductive Port where
  | a
  | b
  | c
  deriving DecidableEq, Repr

/-- The index of a head receiver and its link, 0 to 7. -/
abbrev HeadId := Fin 8

/-- The index of a marker, 0 to 7. -/
abbrev MarkerId := Fin 8

/-- The index of a recipe, 0 to 7. -/
abbrev RecipeId := Fin 8

/-- The index of a lane, 0 to 15. -/
abbrev LaneId := Fin 16

/-- A command of the part: one constructor per row of the opcode table. `body` is the body of a command frame, the
bytes after the code byte and the 2-byte length (R171). -/
inductive Instr where
  /-- R163: power is applied with these levels on ENC_A and ENC_B. -/
  | powerOn (encA encB : Bool)
  /-- R163: initialisation of the retained tables completes. -/
  | initEnd
  /-- R168: the RESET pin is taken with these levels on ENC_A and ENC_B. -/
  | resetPin (encA encB : Bool)
  /-- R1: ENC_A and ENC_B change to these levels. -/
  | encoderEdge (encA encB : Bool)
  /-- R14: a rising edge on SPLICE. -/
  | spliceEdge
  /-- R19: the link layer of a head reports its lane established. -/
  | linkUp (h : HeadId)
  /-- R19: the link layer of a head reports its lane lost. -/
  | linkDown (h : HeadId)
  /-- R20: a link delivers a complete packet, its bytes in the order of R169. -/
  | completePacket (h : HeadId) (bytes : List Byte)
  /-- R20: a link delivers an aborted packet, the bytes received before the abort. -/
  | abortedPacket (h : HeadId) (bytes : List Byte)
  /-- R41: the deadline of a side's open slot of this line number is reached. -/
  | waitExpiry (side : Side) (line : LineNo)
  /-- R71: a side's engine takes the oldest line of its queue. -/
  | lineTake (side : Side)
  /-- R74: a side's line operation ends. -/
  | lineOperationEnd (side : Side)
  /-- R129: the append arbiter takes one record and appends it. -/
  | recordAppend
  /-- R149: the pulse end of a marker is reached. -/
  | pulseEnd (k : MarkerId)
  /-- R151: a rising edge on a marker's confirm input. -/
  | mcfEdge (k : MarkerId)
  /-- R151: the expiry of a marker's confirm window is reached. -/
  | confirmWindowExpiry (k : MarkerId)
  /-- R159: the expiry of a port's stale timer is reached. -/
  | staleTimerExpiry (p : Port)
  /-- R167: the drain ends. -/
  | drainEnd
  /-- R29. -/
  | setHead (p : Port) (body : List Byte)
  /-- R36. -/
  | getHead (p : Port) (body : List Byte)
  /-- R16. -/
  | setLine (p : Port) (body : List Byte)
  /-- R78. -/
  | setCal (p : Port) (body : List Byte)
  /-- R81. -/
  | teach (p : Port) (body : List Byte)
  /-- R85. -/
  | teachAbort (p : Port) (body : List Byte)
  /-- R108. -/
  | setSide (p : Port) (body : List Byte)
  /-- R54. -/
  | setRecipe (p : Port) (body : List Byte)
  /-- R57. -/
  | setLane (p : Port) (body : List Byte)
  /-- R60. -/
  | switchBank (p : Port) (body : List Byte)
  /-- R61. -/
  | cancelSwitch (p : Port) (body : List Byte)
  /-- R141. -/
  | setMarker (p : Port) (body : List Byte)
  /-- R145. -/
  | mark (p : Port) (body : List Byte)
  /-- R152. -/
  | getMarker (p : Port) (body : List Byte)
  /-- R135. -/
  | readRecords (p : Port) (body : List Byte)
  /-- R137. -/
  | setFilter (p : Port) (body : List Byte)
  /-- R164. -/
  | start (p : Port) (body : List Byte)
  /-- R165. -/
  | stop (p : Port) (body : List Byte)
  /-- R160. -/
  | setNotices (p : Port) (body : List Byte)
  /-- R160. -/
  | getNotice (p : Port) (body : List Byte)
  /-- R161. -/
  | getStatus (p : Port) (body : List Byte)
  /-- R162. -/
  | portReset (p : Port) (body : List Byte)
  /-- R157: a FETCH transfer in which `clocked` bytes are shifted out after the status byte. -/
  | fetch (p : Port) (clocked : Nat)
  /-- R156 check 3: a whole frame whose command code names no command. -/
  | unknownCommand (p : Port) (code : Byte) (body : List Byte)
  /-- R156 check 1: a transfer that begins with a command code and is not a whole frame; `rest` are the bytes shifted
  in after the code byte. -/
  | badFrame (p : Port) (code : Byte) (rest : List Byte)
  deriving DecidableEq, Repr

end Sys2Proof
end

