-- ==== Sys2Proof/Config.lean ====
section
/-! DEFINITION. The constants the manual fixes for the part, and the values it leaves open (opaque constants: nothing can
be proved about which value they are). -/

namespace Sys2Proof

/-- Columns of a side, 0 to 16383 (00_scope.md 5.4). -/
def Config.columns : Nat := 16384

/-- Open slots a side can hold (R40). -/
def Config.maxSlots : Nat := 4

/-- Entries a line queue can hold (R45). -/
def Config.queueDepth : Nat := 4

/-- Entries a splice arrival list can hold (R66). -/
def Config.maxArrivals : Nat := 4

/-- Runs kept of one line (R90). -/
def Config.maxRuns : Nat := 256

/-- Blobs a blob table can hold (R91). -/
def Config.maxBlobs : Nat := 128

/-- Entries of a streak table (R119). -/
def Config.maxStreaks : Nat := 64

/-- Records the store can hold (R127). -/
def Config.storeCapacity : Nat := 2048

/-- Orders the mark schedule can hold (R143). -/
def Config.maxOrders : Nat := 64

/-- The greatest value of a saturating 16-bit count (R9, R11, R46, R48, R94, R96, R113, R130, R146). -/
def Config.max16 : Nat := 65535

/-- The greatest distance, splice distance, side offset and MARK distance ahead, 2^24 - 1 (R16, R140, R145). -/
def Config.maxDistance : Nat := 16777215

/-- The greatest gain (R77, R78, R83). -/
def Config.maxGain : Nat := 8191

/-- FREE VALUE (log 7): the n-th byte the part shifts out where the manual states no byte, namely after the last byte of
a response frame, and after the status byte of a FETCH in INIT. -/
opaque Config.freeByte : Nat → Byte

/-- FREE VALUE (log 11): what a streak's lines since report becomes when it would pass 65535. R117 says it keeps
counting, 7.1 gives it the range 0 to 65535, and no rule says whether it saturates or wraps. -/
opaque Config.sinceReportPastLimit : Fin 65536

/-- FREE VALUE (log 14): whether the first of two first positions exactly 2^31 apart counts as the earlier at a blob merge.
R94 takes the one that is behind the other, and of two such positions neither is (00_scope.md 5.1). -/
opaque Config.firstIsEarlier : BitVec 32 → BitVec 32 → Bool

/-- FREE VALUE (log 6): whether, when a port's status changes outside a transfer, the chip select of its next transfer has been
asserted before. R154 ties the status byte to that instant, and the client alone chooses it. -/
opaque Config.transferBegun : Nat → Bool

end Sys2Proof
end

