-- ==== Sys2Proof/Machine/Frames.lean ====
section
/-! DEFINITION. The command table of R171 and the frame check of R156: which command the bytes of a transfer spell, and what makes
a transfer a bad frame and a command code unknown. -/

namespace Sys2Proof.Machine

/-- R171: the command table: each code with the command that a frame of it carries, of a port and a body. -/
def commandTable : List (Byte × (Port → List Byte → Instr)) :=
  [(0x10, .setHead), (0x11, .getHead), (0x12, .setLine), (0x20, .setCal), (0x21, .teach), (0x22, .teachAbort),
    (0x23, .setSide), (0x30, .setRecipe), (0x31, .setLane), (0x32, .switchBank), (0x33, .cancelSwitch),
    (0x40, .setMarker), (0x41, .mark), (0x42, .getMarker), (0x50, .readRecords), (0x51, .setFilter), (0x60, .start),
    (0x61, .stop), (0x70, .setNotices), (0x71, .getNotice), (0x72, .getStatus), (0x73, .portReset)]

/-- R171: the codes that name a command. -/
def namedCodes : List Byte := commandTable.map (·.1)

/-- R171: a FETCH transfer begins with 0x00, which is no command code. -/
def fetchCode : Byte := 0x00

/-- R156 check 3: the code names no command (and is not FETCH). -/
def codeUnknown (code : Byte) : Bool := code != fetchCode && !namedCodes.contains code

/-- R156 check 1, of the bytes after the code byte: the length is cut short, or the bytes that follow it differ in number
from it. -/
def frameBroken (rest : List Byte) : Bool :=
  match rest with
  | hi :: lo :: body => body.length != 256 * hi.toNat + lo.toNat
  | _ => true

/-- A transfer that begins with this byte and goes on with `rest` is a bad frame. -/
def isBadFrame (code : Byte) (rest : List Byte) : Bool := code != fetchCode && frameBroken rest

/-- R171: the command that a code and a body name, if the code is in the table. -/
def namedCommand (code : Byte) (p : Port) (body : List Byte) : Option Instr :=
  (commandTable.find? (·.1 = code)).map fun row => row.2 p body

/-- R154, R156, R171: the command that a transfer spells, of the bytes shifted in at a port: a FETCH, which takes no bytes of its
own, a bad frame, a named command, or an unknown one. A transfer in which no whole byte is shifted in spells none (log 24). -/
def transferCommand (p : Port) : List Byte → Option Instr
  | [] => none
  | code :: rest =>
    if code = fetchCode then some (.fetch p rest.length)
    else if frameBroken rest then some (.badFrame p code rest)
    else some ((namedCommand code p (rest.drop 2)).getD (.unknownCommand p code (rest.drop 2)))

end Sys2Proof.Machine
end

