-- ==== Sys2Proof/WellFormed.lean ====
section
/-! DEFINITION. Which commands are well formed: the checks on a command's operands that need no state. A command that is
not well formed spells no event of the part; its meaning is then that nothing happens beyond what the event's own rule
says of the bytes given (log 2). -/

namespace Sys2Proof

/-- A command body is as long as the 16-bit length of its frame can say (R154, R171). -/
def bodyFits (body : List Byte) : Bool := body.length < 65536

/-- A complete packet has its five header bytes, its check byte and its two CRC bytes, and a payload no longer than a
16-bit pixel count can say (R169). -/
def packetFits (bytes : List Byte) : Bool := decide (8 ≤ bytes.length) && decide (bytes.length < 65544)

/-- An aborted packet ends before its last CRC byte (R20). -/
def abortFits (bytes : List Byte) : Bool := bytes.length < 65543

/-- The command's operands are such as the event of its row can have. -/
def Instr.wellFormed : Instr → Bool
  | .powerOn _ _ => true
  | .initEnd => true
  | .resetPin _ _ => true
  | .encoderEdge _ _ => true
  | .spliceEdge => true
  | .linkUp _ => true
  | .linkDown _ => true
  | .completePacket _ bytes => packetFits bytes
  | .abortedPacket _ bytes => abortFits bytes
  | .waitExpiry _ _ => true
  | .lineTake _ => true
  | .lineOperationEnd _ => true
  | .recordAppend => true
  | .pulseEnd _ => true
  | .mcfEdge _ => true
  | .confirmWindowExpiry _ => true
  | .staleTimerExpiry _ => true
  | .drainEnd => true
  | .setHead _ body => bodyFits body
  | .getHead _ body => bodyFits body
  | .setLine _ body => bodyFits body
  | .setCal _ body => bodyFits body
  | .teach _ body => bodyFits body
  | .teachAbort _ body => bodyFits body
  | .setSide _ body => bodyFits body
  | .setRecipe _ body => bodyFits body
  | .setLane _ body => bodyFits body
  | .switchBank _ body => bodyFits body
  | .cancelSwitch _ body => bodyFits body
  | .setMarker _ body => bodyFits body
  | .mark _ body => bodyFits body
  | .getMarker _ body => bodyFits body
  | .readRecords _ body => bodyFits body
  | .setFilter _ body => bodyFits body
  | .start _ body => bodyFits body
  | .stop _ body => bodyFits body
  | .setNotices _ body => bodyFits body
  | .getNotice _ body => bodyFits body
  | .getStatus _ body => bodyFits body
  | .portReset _ body => bodyFits body
  | .fetch _ _ => true
  | .unknownCommand _ code body => bodyFits body && Machine.codeUnknown code
  | .badFrame _ code rest => Machine.isBadFrame code rest

end Sys2Proof
end

