-- ==== Sys2Proof/Machine/Types.lean ====
section
/-! DEFINITION. The data the part holds, block by block, each type with the rule that names it. Plain data: no field is a
function. -/

namespace Sys2Proof.Machine

/-- One value for each side. -/
structure PerSide (α : Type) where
  top : α
  bottom : α
  deriving DecidableEq, Repr

/-- One value for each client port. -/
structure PerPort (α : Type) where
  a : α
  b : α
  c : α
  deriving DecidableEq, Repr

/-! ### Names -/

/-- R163: the run states. -/
inductive RunState where
  | init
  | standby
  | inspecting
  | stopping
  deriving DecidableEq, Repr

/-- 2.5: the head states. -/
inductive HeadState where
  | off
  | absent
  | live
  | mute
  deriving DecidableEq, Repr

/-- R34: what caused a change of head state. -/
inductive HeadCause where
  | setHead
  | linkUp
  | linkDown
  | packet
  | misses
  | start
  deriving DecidableEq, Repr

/-- R28: the direction of a head's window pixels over the columns. -/
inductive Direction where
  | ascending
  | descending
  deriving DecidableEq, Repr

/-- R25, R27: the mark of a contribution. -/
inductive ContributionMark where
  | full
  | short
  | crc
  deriving DecidableEq, Repr

/-- R43: the result of a head at the closure of a slot. -/
inductive HeadResult where
  | full
  | short
  | crc
  | missing
  | absent
  deriving DecidableEq, Repr

/-- R48, R49: the cause of a blind run. -/
inductive BlindCause where
  | absent
  | missing
  | crc
  | short
  deriving DecidableEq, Repr

/-- 4.1: the two lane banks of a side. -/
inductive Bank where
  | a
  | b
  deriving DecidableEq, Repr

/-- R60: the modes of a bank switch. -/
inductive SwitchMode where
  | now
  | atPosition
  | atSplice
  deriving DecidableEq, Repr

/-- R113: the polarity of an accumulator value. -/
inductive Polarity where
  | light
  | dark
  deriving DecidableEq, Repr

/-- 7.1: the state of a bin. -/
inductive BinState where
  | quiet
  | candidate
  | streak
  deriving DecidableEq, Repr

/-- R121: why a streak closed. -/
inductive CloseReason where
  | ended
  | stop
  | mapChange
  deriving DecidableEq, Repr

/-- R85, R86: why a teach was aborted. -/
inductive AbortReason where
  | abort
  | stop
  | splice
  deriving DecidableEq, Repr

/-- R140: the mode of a marker. -/
inductive MarkerMode where
  | normal
  | inhibit
  | force
  deriving DecidableEq, Repr

/-- 9.1: the output state of a marker. -/
inductive OutputState where
  | idle
  | pulsing
  | forced
  deriving DecidableEq, Repr

/-- R145, R146: the outcome of placing a candidate. -/
inductive Placement where
  | placed
  | merged
  | late
  | lost
  deriving DecidableEq, Repr

/-- 9.1: the kinds of defect record an order can come from. -/
inductive DefectKind where
  | pinhole
  | streakOpen
  | streakContinue
  deriving DecidableEq, Repr

/-- R132: the classes of records. -/
inductive RecordClass where
  | defect
  | coverage
  | mark
  | event
  | overflow
  deriving DecidableEq, Repr

/-- 10.1: the state of a port. -/
inductive PortPhase where
  | idle
  | executing
  | responseHeld
  deriving DecidableEq, Repr

/-- R158: the cause of a PORT_FAULT. -/
inductive FaultCause where
  | commandLost
  | frame
  deriving DecidableEq, Repr

/-- 10.4: the seven notices, in their order of priority. -/
inductive Notice where
  | portFault
  | storeGap
  | runChange
  | headChange
  | markTrouble
  | recordsReady
  | recordsStale
  deriving DecidableEq, Repr

/-- 10.3: the response codes. -/
inductive ResponseCode where
  | ok
  | state
  | busy
  | range
  | overlap
  | invalidMap
  | pending
  | noHeads
  | unknown
  | length
  | none
  deriving DecidableEq, Repr

/-- R128: the sixteen writers of the record store. -/
inductive Writer where
  | positionUnit
  | head (h : HeadId)
  | assembler (side : Side)
  | engine (side : Side)
  | laneMap
  | marks
  | runControl
  deriving DecidableEq, Repr

/-! ### Records (R132, R133, R174) -/

/-- R101: the flags of a PINHOLE record. -/
structure PinholeFlags where
  merged : Bool
  large : Bool
  truncated : Bool
  mapChange : Bool
  deriving DecidableEq, Repr

/-- R121: what every streak record carries. -/
structure StreakFields where
  bin : Nat
  firstColumn : Nat
  polarity : Polarity
  start : Position
  length : Nat
  peakGrey : Int
  marker : Option MarkerId
  deriving DecidableEq, Repr

/-- R133: what every MARK record carries. `source` and `firstKind` are absent for a MARK command. -/
structure MarkFields where
  marker : MarkerId
  firePos : Position
  source : Option Seq
  firstKind : Option DefectKind
  deriving DecidableEq, Repr

/-- The kind of a record with the fields of its kind (R133, R174). -/
inductive Content where
  | pinhole (last : Position) (firstColumn lastColumn area peak lines : Nat) (flags : PinholeFlags)
      (marker : Option MarkerId)
  | streakOpen (f : StreakFields)
  | streakContinue (f : StreakFields) (stop : Position)
  | streakClose (f : StreakFields) (stop : Position) (reason : CloseReason)
  | blind (last : Position) (head : HeadId) (cause : BlindCause) (count : Nat)
  | dropped (last : Position) (count : Nat)
  | skipped (last : Position) (count : Nat) (preceding : LineNo)
  | fired (f : MarkFields) (mergeCount : Nat) (extended forced : Bool)
  | suppressed (f : MarkFields) (mergeCount : Nat)
  | late (f : MarkFields)
  | lost (f : MarkFields)
  | unconfirmed (f : MarkFields)
  | run (former new : RunState) (port : Option Port)
  | splice (previous : Position) (arrival : Option Position)
  | spliceArrived (capture linePosition : Position) (applied : Bool)
  | bankSwitched (bank : Bank) (mode : SwitchMode)
  | teachDone (n target taught untaught : Nat)
  | teachAborted (reason : AbortReason) (n taken : Nat)
  | encoderFault (highWater : Position)
  | headState (head : HeadId) (former new : HeadState) (cause : HeadCause)
  | overflowRuns (count firstColumn : Nat)
  | overflowBlobs (count firstColumn : Nat)
  | overflowStreaks (bin : Nat) (sign : Polarity) (start : Position)
  | overflowSplices (capture : Position)
  deriving DecidableEq, Repr

/-- A record without its sequence number. Side NONE and lane NONE are `none`. -/
structure Draft where
  side : Option Side
  lane : Option LaneId
  position : Position
  content : Content
  deriving DecidableEq, Repr

/-- R132: a record of the store. -/
structure Record where
  seq : Seq
  draft : Draft
  deriving DecidableEq, Repr

/-- The steps of START, STOP and the end of drain whose records reach the store in the order of the steps (R164 to R167): the
records of START and its RUN record; the SKIPPED record of STOP and its RUN record, told apart by whether STOP found all four
idle reports standing; steps 1, 2, 4 and 5 of the end of drain and its RUN record. -/
inductive EventStep where
  | startRecords
  | startRun
  | stopRecords
  | stopRun
  | stopRunIdle
  | drainBlobs
  | drainStreaks
  | drainCoverage
  | drainTeach
  | drainRun
  deriving DecidableEq, Repr

/-- A record made and not yet appended, with the governing mark flag that travels with a defect record (R131; `none`
where there is no governing flag), and the step of START, STOP or the end of drain that made it (`none` for any other
record). -/
structure Offer where
  writer : Writer
  draft : Draft
  flag : Option Bool
  step : Option EventStep
  deriving DecidableEq, Repr

/-! ### Position unit (1.1) -/

/-- R11: an open skipped run. -/
structure SkippedRun where
  first : Position
  last : Position
  count : Nat
  preceding : LineNo
  deriving DecidableEq, Repr

/-- The position unit (1.1). TRIG and TSYNC are pulsed within one event; `trigPulses` counts the pulses made on TRIG and
`syncPulses` those of them made with TSYNC high (log 10). -/
structure PositionUnit where
  web : Position
  highWater : Position
  encA : Bool
  encB : Bool
  encoderFault : Bool
  pitch : Nat
  pendingPitch : Option Nat
  divider : Nat
  lineNumber : LineNo
  holdoff : Nat
  sinceTrigger : Nat
  skipped : Option SkippedRun
  spliceCapture : Position
  prevSpliceCapture : Position
  spliceDistance : Nat
  offset : PerSide Nat
  trigPulses : Nat
  syncPulses : Nat
  deriving DecidableEq, Repr

/-! ### Head receivers (2.1) -/

/-- R28: the geometry record of a head; the head index is the receiver's place. -/
structure Geometry where
  enabled : Bool
  side : Side
  windowStart : Nat
  windowWidth : Nat
  columnOrigin : Nat
  direction : Direction
  deriving DecidableEq, Repr

/-- R35: the seven counters of a head receiver. -/
structure HeadCounters where
  accepted : Counter
  corrected : Counter
  uncorrectable : Counter
  crc : Counter
  late : Counter
  future : Counter
  badHeader : Counter
  deriving DecidableEq, Repr

/-- 2.1: a head receiver. -/
structure Head where
  geometry : Geometry
  state : HeadState
  linkUp : Bool
  misses : Nat
  counters : HeadCounters
  deriving DecidableEq, Repr

/-! ### Line assemblers (3.1) -/

/-- R25: what a head supplies to a slot. `cols` lists the columns that carry a raw value, in ascending order; the other
columns of the head's span are blind. -/
structure Contribution where
  mark : ContributionMark
  cols : List (Nat × Byte)
  deriving DecidableEq, Repr

/-- 3.1: an open slot. `ready` is the condition READY; otherwise the slot is GATHERING. -/
structure Slot where
  line : LineNo
  position : Position
  expected : List HeadId
  absent : List HeadId
  contributions : Vector (Option Contribution) 8
  deadline : Nat
  ready : Bool
  deriving DecidableEq, Repr

/-- 3.1: a closed line. `cols` lists the columns with a raw value, in ascending order; every other column is blind. -/
structure LineEntry where
  position : Position
  cols : List (Nat × Byte)
  precedingDrop : Option Nat
  deriving DecidableEq, Repr

/-- R48: an open blind run of a head. -/
structure BlindRun where
  cause : BlindCause
  first : Position
  last : Position
  count : Nat
  deriving DecidableEq, Repr

/-- R46: an open drop run. -/
structure DropRun where
  first : Position
  last : Position
  count : Nat
  deriving DecidableEq, Repr

/-- 3.1: a line assembler. Slots and queue entries stand oldest first. -/
structure Assembler where
  slots : List Slot
  headWait : Nat
  queue : List LineEntry
  blindRuns : Vector (Option BlindRun) 8
  dropRun : Option DropRun
  deriving DecidableEq, Repr

/-! ### Lane map unit (4.1) -/

/-- R54: a recipe. -/
structure Recipe where
  pinThreshold : Nat
  minArea : Nat
  gapLines : Nat
  maxBlobLines : Nat
  streakOn : Nat
  streakOff : Nat
  shift : Nat
  minStreakLines : Nat
  reportLines : Nat
  lightEnable : Bool
  darkEnable : Bool
  markPinhole : Bool
  markLarge : Bool
  markStreakOpen : Bool
  markStreakContinue : Bool
  deriving DecidableEq, Repr

/-- The eight recipes. -/
abbrev Recipes := Vector Recipe 8

/-- R56: a lane record. A marker index of NONE is `none`. -/
structure LaneRecord where
  enabled : Bool
  spanFirst : Nat
  spanLast : Nat
  coatedFirst : Nat
  coatedLast : Nat
  recipe : RecipeId
  marker : Option MarkerId
  deriving DecidableEq, Repr

/-- The sixteen lane records of a bank. -/
abbrev LaneBank := Vector LaneRecord 16

/-- The two banks of a side. -/
structure Banks where
  a : LaneBank
  b : LaneBank
  deriving DecidableEq, Repr

/-- 4.1: the pending switch. `attached` is the attached splice: absent, or present with, per side, whether the splice was
entered in that side's arrival list (R62, R63, R66). -/
structure SwitchRecord where
  mode : SwitchMode
  position : Option Position
  attached : Option (PerSide Bool)
  target : PerSide Bank
  switched : PerSide Bool
  deriving DecidableEq, Repr

/-- 4.1: an arrival entry. -/
structure ArrivalEntry where
  arrival : Position
  capture : Position
  attached : Bool
  deriving DecidableEq, Repr

/-- 4.1: the lane map unit. -/
structure LaneMap where
  recipes : Recipes
  banks : PerSide Banks
  active : PerSide Bank
  switch : Option SwitchRecord
  arrivals : PerSide (List ArrivalEntry)
  deriving DecidableEq, Repr

/-! ### Side engines (5.1, 6.1, 7.1) -/

/-- R77: an entry of a calibration table. -/
structure CalEntry where
  dark : Nat
  gain : Nat
  deriving DecidableEq, Repr

/-- 5.1: a column's part of a teach record. -/
structure TeachColumn where
  sum : Nat
  observed : Nat
  deriving DecidableEq, Repr

/-- 5.1: a teach record. `columns` lists the columns observed at least once, in ascending order. -/
structure Teach where
  n : Nat
  target : Nat
  taken : Nat
  columns : List (Nat × TeachColumn)
  deriving DecidableEq, Repr

/-- R79, R80: the level of a lane in a line: none (the lane is not enabled), blind, or a mean. -/
inductive LaneLevel where
  | none
  | blind
  | mean (m : Nat)
  deriving DecidableEq, Repr

/-- 6.1: a run record; its pixel count is `last - first + 1`. -/
structure Run where
  lane : LaneId
  first : Nat
  last : Nat
  peak : Nat
  deriving DecidableEq, Repr

/-- 6.1: a blob record; its opening order is its place in the blob table. -/
structure Blob where
  lane : LaneId
  firstPos : Position
  lastPos : Position
  firstColumn : Nat
  lastColumn : Nat
  prevLo : Nat
  prevHi : Nat
  area : Nat
  peak : Nat
  lines : Nat
  misses : Nat
  merged : Bool
  deriving DecidableEq, Repr

/-- 7.1: a bin record. -/
structure Bin where
  s : Int
  state : BinState
  sign : Polarity
  start : Position
  last : Position
  length : Nat
  peak : Int
  sinceReport : Nat
  waiting : Bool
  deriving DecidableEq, Repr

/-- 7.1: an owned entry of the streak table. -/
structure StreakEntry where
  bin : Nat
  lane : LaneId
  sign : Polarity
  start : Position
  deriving DecidableEq, Repr

/-- R75: the commands an engine holds while a line is in flight. -/
inductive EngineCommand where
  | setCal
  | teach
  | teachAbort
  deriving DecidableEq, Repr

/-- R75: a held command. -/
structure HeldCommand where
  port : Port
  command : EngineCommand
  body : List Byte
  deriving DecidableEq, Repr

/-- A side engine (5.1, 6.1, 7.1). `cal` lists the calibration entries that differ from d = 0, g = 4096, and `bins` the
bins that differ from a cleared QUIET bin, both in ascending order. -/
structure Engine where
  inFlight : Option LineEntry
  held : List HeldCommand
  cal : List (Nat × CalEntry)
  snapshot : Option Recipes
  laneLevels : Vector LaneLevel 16
  teach : Option Teach
  recordList : List Offer
  blobs : List Blob
  runList : List Run
  runsDropped : Nat
  blobDrops : Nat
  binWidth : Nat
  bins : List (Nat × Bin)
  streaks : List StreakEntry
  deriving DecidableEq, Repr

/-! ### Record store (8.1) -/

/-- 8.1: a set of record classes. -/
structure ClassSet where
  defect : Bool
  coverage : Bool
  mark : Bool
  event : Bool
  overflow : Bool
  deriving DecidableEq, Repr

/-- R134: the reading state of a port. -/
structure Reading where
  cursor : Seq
  filter : ClassSet
  pending : Nat
  lost : Nat
  trigger : Nat
  staleTime : Nat
  deriving DecidableEq, Repr

/-- 8.1: the record store. `waiting` lists the records made and not yet appended, in the order of their making, apart from
those of the record lists of the lines in flight (R74, R128). -/
structure Store where
  records : List Record
  nextSeq : Seq
  oldestSeq : Seq
  rotation : List Writer
  waiting : List Offer
  reading : PerPort Reading
  deriving DecidableEq, Repr

/-! ### Mark scheduler (9.1) -/

/-- R140: a marker record. -/
structure MarkerRecord where
  distance : Nat
  pulseWidth : Nat
  mergeWindow : Nat
  confirmTimeout : Nat
  mode : MarkerMode
  deriving DecidableEq, Repr

/-- R149: an open confirm window, with the firing that last opened or restarted it. -/
structure ConfirmWindow where
  expiry : Nat
  firePos : Position
  source : Option Seq
  firstKind : Option DefectKind
  side : Option Side
  lane : Option LaneId
  deriving DecidableEq, Repr

/-- 9.1: what the scheduler holds for one marker. MARKk is active unless `output` is IDLE (R142, R149, R150). -/
structure Marker where
  record : MarkerRecord
  output : OutputState
  pulseEnd : Option Nat
  window : Option ConfirmWindow
  capture : Position
  prevCapture : Position
  deriving DecidableEq, Repr

/-- 9.1: an order; a source of MANUAL is `none`. -/
structure Order where
  marker : MarkerId
  firePos : Position
  source : Option Seq
  firstKind : Option DefectKind
  side : Option Side
  lane : Option LaneId
  mergeCount : Nat
  deriving DecidableEq, Repr

/-- 9.1: the mark scheduler; the orders stand nearest first. -/
structure Scheduler where
  markers : Vector Marker 8
  orders : List Order
  deriving DecidableEq, Repr

/-! ### Client ports (10.1) -/

/-- A set of notices (R160). -/
structure NoticeSet where
  portFault : Bool
  storeGap : Bool
  runChange : Bool
  headChange : Bool
  markTrouble : Bool
  recordsReady : Bool
  recordsStale : Bool
  deriving DecidableEq, Repr

/-- The notices that are raised and cleared by events; RECORDS_READY is a level and is computed (R158). -/
structure RaisedNotices where
  portFault : Bool
  storeGap : Bool
  runChange : Bool
  headChange : Bool
  markTrouble : Bool
  recordsStale : Bool
  deriving DecidableEq, Repr

/-- R155, R171: a response. -/
structure Response where
  code : ResponseCode
  body : List Byte
  deriving DecidableEq, Repr

/-- 10.1: a client port. `dataOut` holds the bytes the port shifted out in its last transfer (R154, R157). `shownStatus` is the status
byte that a transfer in progress has shifted out, when its chip select was asserted before the port's status last changed (R154,
log 6). -/
structure PortState where
  phase : PortPhase
  held : Option Response
  raised : RaisedNotices
  faultCause : Option FaultCause
  faultCount : Nat
  enables : NoticeSet
  staleTimer : Option Nat
  dataOut : List Byte
  shownStatus : Option Byte
  deriving DecidableEq, Repr

end Sys2Proof.Machine
end

