-- ==== Sys2Proof/Machine/ResetValues.lean ====
section
/-! DEFINITION. The reset values of each block, from the block's own table. -/

namespace Sys2Proof.Machine

/-- R18: the position unit after power-on and after the RESET pin, with the levels present on ENC_A and ENC_B. -/
def PositionUnit.atReset (encA encB : Bool) : PositionUnit where
  web := 0
  highWater := 0
  encA := encA
  encB := encB
  encoderFault := false
  pitch := 16
  pendingPitch := none
  divider := 0
  lineNumber := 0
  holdoff := 0
  sinceTrigger := 65535
  skipped := none
  spliceCapture := 0
  prevSpliceCapture := 0
  spliceDistance := 0
  offset := { top := 0, bottom := 0 }
  trigPulses := 0
  syncPulses := 0

/-- R35, R37: every counter 0. -/
def HeadCounters.zero : HeadCounters where
  accepted := 0
  corrected := 0
  uncorrectable := 0
  crc := 0
  late := 0
  future := 0
  badHeader := 0

/-- R37: a head receiver after power-on and after the RESET pin. -/
def Head.atReset (h : HeadId) : Head where
  geometry :=
    { enabled := false
      side := if h.val < 4 then .top else .bottom
      windowStart := 0
      windowWidth := 4096
      columnOrigin := 4096 * (h.val % 4)
      direction := .ascending }
  state := .off
  linkUp := false
  misses := 0
  counters := HeadCounters.zero

/-- R37: the eight head receivers. -/
def headsAtReset : Vector Head 8 :=
  #v[Head.atReset 0, Head.atReset 1, Head.atReset 2, Head.atReset 3, Head.atReset 4, Head.atReset 5, Head.atReset 6,
    Head.atReset 7]

/-- R52: a line assembler after power-on and after the RESET pin. -/
def Assembler.atReset : Assembler where
  slots := []
  headWait := 5000
  queue := []
  blindRuns := Vector.replicate 8 none
  dropRun := none

/-- R55: every recipe at power-on. -/
def Recipe.powerOn : Recipe where
  pinThreshold := 48
  minArea := 4
  gapLines := 1
  maxBlobLines := 2000
  streakOn := 6
  streakOff := 3
  shift := 4
  minStreakLines := 200
  reportLines := 0
  lightEnable := true
  darkEnable := true
  markPinhole := true
  markLarge := false
  markStreakOpen := true
  markStreakContinue := false

/-- R55: the eight recipes at power-on. -/
def Recipes.powerOn : Recipes := Vector.replicate 8 Recipe.powerOn

/-- R56: lane i at power-on. -/
def LaneRecord.powerOn (i : Nat) : LaneRecord where
  enabled := false
  spanFirst := 1024 * i
  spanLast := 1024 * i + 1023
  coatedFirst := 1024 * i
  coatedLast := 1024 * i + 1023
  recipe := 0
  marker := none

/-- R56: a bank at power-on. -/
def LaneBank.powerOn : LaneBank :=
  #v[LaneRecord.powerOn 0, LaneRecord.powerOn 1, LaneRecord.powerOn 2, LaneRecord.powerOn 3, LaneRecord.powerOn 4,
    LaneRecord.powerOn 5, LaneRecord.powerOn 6, LaneRecord.powerOn 7, LaneRecord.powerOn 8, LaneRecord.powerOn 9,
    LaneRecord.powerOn 10, LaneRecord.powerOn 11, LaneRecord.powerOn 12, LaneRecord.powerOn 13, LaneRecord.powerOn 14,
    LaneRecord.powerOn 15]

/-- R56: the two banks of a side at power-on. -/
def Banks.powerOn : Banks := { a := LaneBank.powerOn, b := LaneBank.powerOn }

/-- R69: the lane map unit after a reset, with the recipes and banks given (those of power-on, or those retained). -/
def LaneMap.atReset (recipes : Recipes) (banks : PerSide Banks) : LaneMap where
  recipes := recipes
  banks := banks
  active := { top := .a, bottom := .a }
  switch := none
  arrivals := { top := [], bottom := [] }

/-- R77: what an unlisted column of a calibration table reads as, the value of power-on. -/
def CalEntry.unity : CalEntry := { dark := 0, gain := 4096 }

/-- R81: what an unlisted column of a teach record reads as. -/
def TeachColumn.zero : TeachColumn := { sum := 0, observed := 0 }

/-- R108, R126: a bin that is QUIET with accumulator `s`, waiting no and every other field cleared (log 16). -/
def Bin.quiet (s : Int) : Bin where
  s := s
  state := .quiet
  sign := .light
  start := 0
  last := 0
  length := 0
  peak := 0
  sinceReport := 0
  waiting := false

/-- R87, R106, R126: a side engine after a reset, with the calibration table and bin width given (those of power-on, or
those retained). -/
def Engine.atReset (cal : List (Nat × CalEntry)) (binWidth : Nat) : Engine where
  inFlight := none
  held := []
  cal := cal
  snapshot := none
  laneLevels := Vector.replicate 16 .none
  teach := none
  recordList := []
  blobs := []
  runList := []
  runsDropped := 0
  blobDrops := 0
  binWidth := binWidth
  bins := []
  streaks := []

/-- R134: all five classes. -/
def ClassSet.all : ClassSet where
  defect := true
  coverage := true
  mark := true
  event := true
  overflow := true

/-- R134: the reading state of a port at a reset of the part; PORT_RESET sets the same with its own cursor (R138). -/
def Reading.atCursor (cursor : Seq) : Reading where
  cursor := cursor
  filter := ClassSet.all
  pending := 0
  lost := 0
  trigger := 1
  staleTime := 0

/-- R128: the order of the rotation at a reset. -/
def rotationAtReset : List Writer :=
  [.positionUnit, .head 0, .head 1, .head 2, .head 3, .head 4, .head 5, .head 6, .head 7, .assembler .top,
    .assembler .bottom, .engine .top, .engine .bottom, .laneMap, .marks, .runControl]

/-- R139: the record store at a reset. -/
def Store.atReset : Store where
  records := []
  nextSeq := 0
  oldestSeq := 0
  rotation := rotationAtReset
  waiting := []
  reading := { a := Reading.atCursor 0, b := Reading.atCursor 0, c := Reading.atCursor 0 }

/-- R140: a marker record at power-on. -/
def MarkerRecord.powerOn : MarkerRecord where
  distance := 0
  pulseWidth := 10
  mergeWindow := 0
  confirmTimeout := 0
  mode := .normal

/-- R153: what the scheduler holds for a marker after a reset, with the marker record given. -/
def Marker.atReset (record : MarkerRecord) : Marker where
  record := record
  output := .idle
  pulseEnd := none
  window := none
  capture := 0
  prevCapture := 0

/-- R153: the scheduler at power-on. -/
def Scheduler.powerOn : Scheduler where
  markers := Vector.replicate 8 (Marker.atReset MarkerRecord.powerOn)
  orders := []

/-- No notice. -/
def NoticeSet.empty : NoticeSet where
  portFault := false
  storeGap := false
  runChange := false
  headChange := false
  markTrouble := false
  recordsReady := false
  recordsStale := false

/-- No raised notice. -/
def RaisedNotices.empty : RaisedNotices where
  portFault := false
  storeGap := false
  runChange := false
  headChange := false
  markTrouble := false
  recordsStale := false

/-- R162: a port after the RESET pin, where a transfer in progress is abandoned, and at the end of INIT; it holds the same values from
power-on on. -/
def PortState.atReset : PortState where
  phase := .idle
  held := .none
  raised := RaisedNotices.empty
  faultCause := .none
  faultCount := 0
  enables := NoticeSet.empty
  staleTimer := .none
  dataOut := []
  shownStatus := .none

end Sys2Proof.Machine
end

