-- ==== Sys2Proof/Machine/State.lean ====
section
/-! DEFINITION. The state of the part, the reasons a step can stop, and the state after power-on. -/

namespace Sys2Proof.Machine

/-- Faults. There is none: the part answers every command, counts every bad packet and reports every full table, and no
rule stops it (INVENTORY.md, Faults). -/
inductive Fault where
  deriving DecidableEq, Repr

/-- Refusals. -/
inductive Refusal where
  /-- Raised by an arm of `exec` whose command has no meaning yet; safe, since nothing can be proved of what the command
  does. No arm raises it now. -/
  | notModelled (mnemonic : String)
  deriving DecidableEq, Repr

/-- The state of the part. `pending` is the queue of commands that wait, oldest first (log 1); `now` is the present time
in microseconds (log 3); `freeDraws` is how many free values have been drawn (log 6, log 7); the other fields are the blocks of
00_scope.md 2.1. -/
structure State where
  pending : List Instr
  now : Nat
  freeDraws : Nat
  runState : RunState
  pos : PositionUnit
  heads : Vector Head 8
  asm : PerSide Assembler
  eng : PerSide Engine
  lanes : LaneMap
  store : Store
  marks : Scheduler
  ports : PerPort PortState
  deriving DecidableEq, Repr

/-- R163: the part right after power-on, in INIT, with these levels on ENC_A and ENC_B and the commands that wait. -/
def State.atPowerOn (encA encB : Bool) (pending : List Instr) : State where
  pending := pending
  now := 0
  freeDraws := 0
  runState := .init
  pos := PositionUnit.atReset encA encB
  heads := headsAtReset
  asm := { top := Assembler.atReset, bottom := Assembler.atReset }
  eng := { top := Engine.atReset [] 8, bottom := Engine.atReset [] 8 }
  lanes := LaneMap.atReset Recipes.powerOn { top := Banks.powerOn, bottom := Banks.powerOn }
  store := Store.atReset
  marks := Scheduler.powerOn
  ports := { a := PortState.atReset, b := PortState.atReset, c := PortState.atReset }

/-- The state after reset: power has just been applied, with both encoder inputs low (log 5), and no command waits. -/
def State.reset : State := State.atPowerOn false false []

end Sys2Proof.Machine
end

