-- ==== Sys2Proof/Machine/Ops.lean ====
section
/-! DEFINITION. The operations every block's meanings are built from: the half-range relation, saturating counts, the lists
indexed by column or bin, reads and updates of one block of the state, the clock, and offering a record to the store. -/

namespace Sys2Proof.Machine

/-! ### Positions and counts -/

/-- 00_scope.md 5.1: p is ahead of q when (p - q) mod 2^n lies in 1 to 2^(n-1) - 1; used for positions and sequence
numbers (32 bits) and for line numbers (16 bits, 5.3). -/
def ahead {n : Nat} (p q : BitVec n) : Bool := decide (1 ≤ (p - q).toNat) && decide ((p - q).toNat < 2 ^ (n - 1))

/-- 00_scope.md 5.1: p is at or ahead of q. -/
def atOrAhead {n : Nat} (p q : BitVec n) : Bool := p == q || ahead p q

/-- 00_scope.md 5.7: one more, stopping at `limit`. -/
def satSucc (limit n : Nat) : Nat := min limit (n + 1)

/-- 00_scope.md 5.7: a sum, stopping at `limit`. -/
def satAdd (limit n m : Nat) : Nat := min limit (n + m)

/-! ### Lists indexed by column or bin -/

/-- The value at index k of a list of (index, value) pairs; an unlisted index reads as `d`. -/
def sparseGet {α : Type} (d : α) : List (Nat × α) → Nat → α
  | [], _ => d
  | (j, w) :: rest, k => if j = k then w else sparseGet d rest k

/-- Write v at index k, keeping the indexes rising and listing no value equal to `d`. -/
def sparseSet {α : Type} [DecidableEq α] (d : α) : List (Nat × α) → Nat → α → List (Nat × α)
  | [], k, v => if v = d then [] else [(k, v)]
  | (j, w) :: rest, k, v =>
    if k < j then (if v = d then (j, w) :: rest else (k, v) :: (j, w) :: rest)
    else if k = j then (if v = d then rest else (k, v) :: rest)
    else (j, w) :: sparseSet d rest k v

/-- The canonical form: indexes strictly rising from `low` on, and no value equal to `d`. -/
def sparseWfFrom {α : Type} [DecidableEq α] (d : α) : Nat → List (Nat × α) → Bool
  | _, [] => true
  | low, (j, w) :: rest => decide (low ≤ j) && decide (w ≠ d) && sparseWfFrom d (j + 1) rest

/-- The canonical form of a list indexed by column or bin. -/
def sparseWf {α : Type} [DecidableEq α] (d : α) (m : List (Nat × α)) : Bool := sparseWfFrom d 0 m

/-! ### One of two, three, eight -/

/-- The value of a side. -/
def PerSide.get {α : Type} (v : PerSide α) : Side → α
  | .top => v.top
  | .bottom => v.bottom

/-- Replace the value of a side. -/
def PerSide.set {α : Type} (v : PerSide α) (side : Side) (x : α) : PerSide α :=
  match side with
  | .top => { v with top := x }
  | .bottom => { v with bottom := x }

/-- The value of a port. -/
def PerPort.get {α : Type} (v : PerPort α) : Port → α
  | .a => v.a
  | .b => v.b
  | .c => v.c

/-- Replace the value of a port. -/
def PerPort.set {α : Type} (v : PerPort α) (p : Port) (x : α) : PerPort α :=
  match p with
  | .a => { v with a := x }
  | .b => { v with b := x }
  | .c => { v with c := x }

/-- The bank of a side's two. -/
def Banks.get (v : Banks) : Bank → LaneBank
  | .a => v.a
  | .b => v.b

/-- Replace one bank of a side's two. -/
def Banks.set (v : Banks) (bank : Bank) (x : LaneBank) : Banks :=
  match bank with
  | .a => { v with a := x }
  | .b => { v with b := x }

/-- 00_scope.md 5.4: the inactive bank when the other is active. -/
def otherBank : Bank → Bank
  | .a => .b
  | .b => .a

/-- The eight heads in ascending index. -/
def allHeads : List HeadId := [0, 1, 2, 3, 4, 5, 6, 7]

/-- The sixteen lanes in ascending index. -/
def allLanes : List LaneId := [0, 1, 2, 3, 4, 5, 6, 7, 8, 9, 10, 11, 12, 13, 14, 15]

/-- Replace one element of a vector by a function of it. -/
def vecModify {α : Type} {n : Nat} (v : Vector α n) (i : Fin n) (f : α → α) : Vector α n := v.set i (f v[i])

/-! ### Updates of one block of the state -/

/-- Change the position unit. -/
def State.modPos (s : State) (f : PositionUnit → PositionUnit) : State := { s with pos := f s.pos }

/-- The head receiver h. -/
def State.head (s : State) (h : HeadId) : Head := s.heads[h]

/-- Change one head receiver. -/
def State.modHead (s : State) (h : HeadId) (f : Head → Head) : State := { s with heads := vecModify s.heads h f }

/-- Change one line assembler. -/
def State.modAsm (s : State) (side : Side) (f : Assembler → Assembler) : State :=
  { s with asm := s.asm.set side (f (s.asm.get side)) }

/-- Change one side engine. -/
def State.modEng (s : State) (side : Side) (f : Engine → Engine) : State :=
  { s with eng := s.eng.set side (f (s.eng.get side)) }

/-- Change the lane map unit. -/
def State.modLanes (s : State) (f : LaneMap → LaneMap) : State := { s with lanes := f s.lanes }

/-- Change the record store. -/
def State.modStore (s : State) (f : Store → Store) : State := { s with store := f s.store }

/-- The scheduler's part for marker k. -/
def State.marker (s : State) (k : MarkerId) : Marker := s.marks.markers[k]

/-- Change the scheduler's part for marker k. -/
def State.modMarker (s : State) (k : MarkerId) (f : Marker → Marker) : State :=
  { s with marks := { s.marks with markers := vecModify s.marks.markers k f } }

/-- Replace the mark schedule. -/
def State.setOrders (s : State) (orders : List Order) : State := { s with marks := { s.marks with orders := orders } }

/-- Change one client port. -/
def State.modPort (s : State) (p : Port) (f : PortState → PortState) : State :=
  { s with ports := s.ports.set p (f (s.ports.get p)) }

/-- The reading state of a port. -/
def State.reading (s : State) (p : Port) : Reading := s.store.reading.get p

/-- Change the reading state of a port. -/
def State.modReading (s : State) (p : Port) (f : Reading → Reading) : State :=
  { s with store := { s.store with reading := s.store.reading.set p (f (s.store.reading.get p)) } }

/-- Do something at each of the three ports, A first. -/
def State.atEachPort (s : State) (f : State → Port → State) : State := f (f (f s .a) .b) .c

/-! ### Geometry and lanes -/

/-- The head is enabled and looks at this side. -/
def State.headOn (s : State) (side : Side) (h : HeadId) : Bool :=
  (s.head h).geometry.enabled && decide ((s.head h).geometry.side = side)

/-- R38: the side has at least one enabled head. -/
def State.hasHead (s : State) (side : Side) : Bool := allHeads.any (s.headOn side)

/-- R59: the bank in use for a side's inspection. -/
def State.activeBank (s : State) (side : Side) : LaneBank := (s.lanes.banks.get side).get (s.lanes.active.get side)

/-- Two ranges of columns share at least one. -/
def rangesMeet (first last first' last' : Nat) : Bool := decide (first ≤ last') && decide (first' ≤ last)

/-- R55, R59: the recipe of a lane of a bank. -/
def laneRecipe (bank : LaneBank) (recipes : Recipes) (lane : LaneId) : Recipe := recipes[bank[lane].recipe]

/-- The enabled lanes of a bank, in ascending index. -/
def enabledLanes (bank : LaneBank) : List LaneId := allLanes.filter fun lane => bank[lane].enabled

/-- The recipe snapshot of a side's latest take; before the first take there is none and none is used (log 15). -/
def Engine.recipes (e : Engine) : Recipes := e.snapshot.getD Recipes.powerOn

/-! ### The clock (log 3, log 4) -/

/-- Let d microseconds pass: R9's time since trigger runs on and saturates. -/
def State.letPass (s : State) (d : Nat) : State :=
  { s with now := s.now + d, pos := { s.pos with sinceTrigger := satAdd Config.max16 s.pos.sinceTrigger d } }

/-- The present time is at least t: the time t has been reached. -/
def State.reachTime (s : State) (t : Nat) : State := s.letPass (t - s.now)

/-! ### Offering records -/

/-- R128: a writer makes a record; it waits behind every record the writer made before. -/
def State.offer (s : State) (w : Writer) (d : Draft) (flag : Option Bool := none) : State :=
  { s with
    store := { s.store with waiting := s.store.waiting ++ [{ writer := w, draft := d, flag := flag, step := none }] } }

/-- R164 to R167: the records made since there were n waiting ones are those of this step. -/
def State.stepSince (s : State) (n : Nat) (step : EventStep) : State :=
  { s with
    store :=
      { s.store with
        waiting := s.store.waiting.take n ++ (s.store.waiting.drop n).map fun o => { o with step := some step } } }

/-- R164 to R167: do something as a step of START, STOP or the end of drain: the records it makes are those of the step. -/
def State.inStep (s : State) (step : EventStep) (f : State → State) : State :=
  (f s).stepSince s.store.waiting.length step

/-- A record that a side engine has made, with its governing mark flag. -/
abbrev Made := Draft × Option Bool

/-- R128: a writer makes several records, in this order. -/
def State.offerAll (s : State) (w : Writer) (made : List Made) : State := made.foldl (fun s m => s.offer w m.1 m.2) s

/-- R74: records of the line operation join the record list of the side's engine, in this order. -/
def Engine.addRecords (e : Engine) (side : Side) (made : List Made) : Engine :=
  { e with
    recordList :=
      e.recordList ++ made.map fun m => { writer := .engine side, draft := m.1, flag := m.2, step := none } }

end Sys2Proof.Machine
end

