-- ==== Sys2Proof/Machine/Clock.lean ====
section
/-! DEFINITION. What a step does when no command waits: time passes (log 3). -/

namespace Sys2Proof.Machine

/-- One microsecond passes with no event. -/
def State.tick (s : State) : State := s.letPass 1

end Sys2Proof.Machine
end

