-- ==== Sys2Proof/Machine/Flags.lean ====
section
/-! DEFINITION. Notices, ATTN and the status byte of the client ports: what raises and clears each notice, and what is
computed from them (R154, R155, R158, R171). -/

namespace Sys2Proof.Machine

/-! ### Raising and clearing -/

/-- R158: RUN_CHANGE is raised at all three ports. -/
def State.raiseRunChange (s : State) : State :=
  s.atEachPort fun s p => s.modPort p fun c => { c with raised := { c.raised with runChange := true } }

/-- R34, R158: HEAD_CHANGE is raised at all three ports. -/
def State.raiseHeadChange (s : State) : State :=
  s.atEachPort fun s p => s.modPort p fun c => { c with raised := { c.raised with headChange := true } }

/-- R146, R147, R151, R158: MARK_TROUBLE is raised at all three ports. -/
def State.raiseMarkTrouble (s : State) : State :=
  s.atEachPort fun s p => s.modPort p fun c => { c with raised := { c.raised with markTrouble := true } }

/-- R130, R158: STORE_GAP is raised at one port. -/
def State.raiseStoreGap (s : State) (p : Port) : State :=
  s.modPort p fun c => { c with raised := { c.raised with storeGap := true } }

/-- R158: PORT_FAULT at a port; the first cause since it was cleared is kept, and the faults are counted. -/
def PortState.fault (c : PortState) (cause : FaultCause) : PortState :=
  if c.raised.portFault then { c with faultCount := satSucc 255 c.faultCount }
  else { c with raised := { c.raised with portFault := true }, faultCause := some cause, faultCount := 1 }

/-- R155, R156: the port records a PORT_FAULT. -/
def State.portFault (s : State) (p : Port) (cause : FaultCause) : State := s.modPort p (·.fault cause)

/-! ### Computed flags -/

/-- R158: RECORDS_READY is pending exactly while the pending count is at least the trigger level. -/
def Reading.recordsReady (r : Reading) : Bool := decide (r.trigger ≤ r.pending)

/-- The notices pending at a port, the raised ones and RECORDS_READY. -/
def State.pendingNotices (s : State) (p : Port) : NoticeSet :=
  let r := (s.ports.get p).raised
  { portFault := r.portFault
    storeGap := r.storeGap
    runChange := r.runChange
    headChange := r.headChange
    markTrouble := r.markTrouble
    recordsReady := (s.reading p).recordsReady
    recordsStale := r.recordsStale }

/-- The notices that are both in one set and in the other. -/
def NoticeSet.inter (x y : NoticeSet) : NoticeSet where
  portFault := x.portFault && y.portFault
  storeGap := x.storeGap && y.storeGap
  runChange := x.runChange && y.runChange
  headChange := x.headChange && y.headChange
  markTrouble := x.markTrouble && y.markTrouble
  recordsReady := x.recordsReady && y.recordsReady
  recordsStale := x.recordsStale && y.recordsStale

/-- R160: the notices both pending and enabled at a port. -/
def State.pendingEnabled (s : State) (p : Port) : NoticeSet := (s.pendingNotices p).inter (s.ports.get p).enables

/-- The highest-priority notice of a set (10.4). -/
def NoticeSet.highest (x : NoticeSet) : Option Notice :=
  if x.portFault then some .portFault
  else if x.storeGap then some .storeGap
  else if x.runChange then some .runChange
  else if x.headChange then some .headChange
  else if x.markTrouble then some .markTrouble
  else if x.recordsReady then some .recordsReady
  else if x.recordsStale then some .recordsStale
  else none

/-- R158: ATTN is asserted while at least one notice that is both pending and enabled stands. -/
def State.attn (s : State) (p : Port) : Bool := (s.pendingEnabled p).highest.isSome

/-- R154, R171: the status byte of a port. -/
def State.statusByte (s : State) (p : Port) : Byte :=
  if s.runState = .init then 0xA0
  else
    match (s.ports.get p).phase with
    | .idle => 0xA1
    | .executing => 0xA2
    | .responseHeld => 0xA3

/-- R142, R149, R150, R153: the level on MARKk. -/
def State.markActive (s : State) (k : MarkerId) : Bool := decide ((s.marker k).output ≠ .idle)

end Sys2Proof.Machine
end

