-- ==== Sys2Proof/Machine/Operands.lean ====
section
/-! DEFINITION. Formats: the bodies of the commands as R171 lays them out, the encodings of their fields, the response
frame and the response bodies of R172, and the delivered record of R173 and R174. -/

namespace Sys2Proof.Machine

/-! ### Bytes and numbers -/

/-- Two bytes, the most significant first. -/
def be16 (hi lo : Byte) : Nat := 256 * hi.toNat + lo.toNat

/-- Four bytes, the most significant first. -/
def be32 (b3 b2 b1 b0 : Byte) : Nat := 65536 * be16 b3 b2 + be16 b1 b0

/-- A number of one byte. -/
def byte1 (n : Nat) : List Byte := [BitVec.ofNat 8 n]

/-- A number of two bytes, the most significant first. -/
def bytes2 (n : Nat) : List Byte := [BitVec.ofNat 8 (n / 256), BitVec.ofNat 8 n]

/-- A number of four bytes, the most significant first. -/
def bytes4 (n : Nat) : List Byte := bytes2 (n / 65536) ++ bytes2 n

/-- A position or sequence number, four bytes. -/
def bytesPos (p : BitVec 32) : List Byte := bytes4 p.toNat

/-- A yes or no. -/
def byteBool (b : Bool) : List Byte := if b then [1] else [0]

/-- A signed value of two bytes, two's complement. -/
def bytesSigned2 (i : Int) : List Byte := bytes2 (BitVec.ofInt 16 i).toNat

/-! ### Encodings of fields (R171) -/

/-- TOP 0, BOTTOM 1. -/
def readSide (b : Byte) : Option Side := if b = 0 then some .top else if b = 1 then some .bottom else none

/-- no 0, yes 1. -/
def readBool (b : Byte) : Option Bool := if b = 0 then some false else if b = 1 then some true else none

/-- A 0, B 1. -/
def readBank (b : Byte) : Option Bank := if b = 0 then some .a else if b = 1 then some .b else none

/-- ASCENDING 0, DESCENDING 1. -/
def readDirection (b : Byte) : Option Direction :=
  if b = 0 then some .ascending else if b = 1 then some .descending else none

/-- NOW 0, AT_POSITION 1, AT_SPLICE 2. -/
def readSwitchMode (b : Byte) : Option SwitchMode :=
  if b = 0 then some .now else if b = 1 then some .atPosition else if b = 2 then some .atSplice else none

/-- NORMAL 0, INHIBIT 1, FORCE 2. -/
def readMarkerMode (b : Byte) : Option MarkerMode :=
  if b = 0 then some .normal else if b = 1 then some .inhibit else if b = 2 then some .force else none

/-- An index below n. -/
def readIndex (n : Nat) (b : Byte) : Option (Fin n) := if h : b.toNat < n then some ⟨b.toNat, h⟩ else none

/-- A marker index, 0 to 7 or NONE, which is 0xFF. -/
def readMarkerOrNone (b : Byte) : Option (Option MarkerId) := if b = 0xFF then some none else (readIndex 8 b).map some

def byteSide : Option Side → List Byte
  | some .top => [0]
  | some .bottom => [1]
  | none => [2]

def byteBank : Bank → List Byte
  | .a => [0]
  | .b => [1]

def byteDirection : Direction → List Byte
  | .ascending => [0]
  | .descending => [1]

def byteSwitchMode : SwitchMode → List Byte
  | .now => [0]
  | .atPosition => [1]
  | .atSplice => [2]

def byteMarkerMode : MarkerMode → List Byte
  | .normal => [0]
  | .inhibit => [1]
  | .force => [2]

def byteRunState : RunState → List Byte
  | .init => [0]
  | .standby => [1]
  | .inspecting => [2]
  | .stopping => [3]

def byteHeadState : HeadState → List Byte
  | .off => [0]
  | .absent => [1]
  | .live => [2]
  | .mute => [3]

def byteHeadCause : HeadCause → List Byte
  | .setHead => [0]
  | .linkUp => [1]
  | .linkDown => [2]
  | .packet => [3]
  | .misses => [4]
  | .start => [5]

def byteOutput : OutputState → List Byte
  | .idle => [0]
  | .pulsing => [1]
  | .forced => [2]

def bytePlacement : Placement → List Byte
  | .placed => [0]
  | .merged => [1]
  | .late => [2]
  | .lost => [3]

def bytePolarity : Polarity → List Byte
  | .light => [0]
  | .dark => [1]

def byteReason : CloseReason → List Byte
  | .ended => [0]
  | .stop => [1]
  | .mapChange => [2]

def byteAbort : AbortReason → List Byte
  | .abort => [0]
  | .stop => [1]
  | .splice => [2]

def byteBlindCause : BlindCause → List Byte
  | .absent => [0]
  | .missing => [1]
  | .crc => [2]
  | .short => [3]

def bytePort : Port → List Byte
  | .a => [0]
  | .b => [1]
  | .c => [2]

/-- The notice codes, equal to the priorities; NONE is 0. -/
def byteNotice : Option Notice → List Byte
  | none => [0]
  | some .portFault => [1]
  | some .storeGap => [2]
  | some .runChange => [3]
  | some .headChange => [4]
  | some .markTrouble => [5]
  | some .recordsReady => [6]
  | some .recordsStale => [7]

def byteFaultCause : Option FaultCause → List Byte
  | none => [0]
  | some .commandLost => [1]
  | some .frame => [2]

/-- A lane or marker index, 0xFF for NONE. -/
def byteIndexOrNone {n : Nat} : Option (Fin n) → List Byte
  | none => [0xFF]
  | some i => byte1 i.val

/-- The bit n of a byte. -/
def bitOf (b : Byte) (n : Nat) : Bool := b.getLsbD n

/-- The value of a bit at place n. -/
def bitAt (b : Bool) (n : Nat) : Nat := if b then 2 ^ n else 0

/-- The class set of R171: bits 0 to 4; the other bits are ignored. -/
def readClassSet (b : Byte) : ClassSet where
  defect := bitOf b 0
  coverage := bitOf b 1
  mark := bitOf b 2
  event := bitOf b 3
  overflow := bitOf b 4

/-- The notice set of R171: bit c - 1 stands for the notice of code c; bit 7 is ignored. -/
def readNoticeSet (b : Byte) : NoticeSet where
  portFault := bitOf b 0
  storeGap := bitOf b 1
  runChange := bitOf b 2
  headChange := bitOf b 3
  markTrouble := bitOf b 4
  recordsReady := bitOf b 5
  recordsStale := bitOf b 6

/-- A notice set as R171 encodes it. -/
def byteNoticeSet (x : NoticeSet) : List Byte :=
  byte1
    (bitAt x.portFault 0 + bitAt x.storeGap 1 + bitAt x.runChange 2 + bitAt x.headChange 3 + bitAt x.markTrouble 4
      + bitAt x.recordsReady 5 + bitAt x.recordsStale 6)

/-- The response codes of R171. -/
def byteResponse : ResponseCode → Byte
  | .ok => 0x00
  | .state => 0x01
  | .busy => 0x02
  | .range => 0x03
  | .overlap => 0x04
  | .invalidMap => 0x05
  | .pending => 0x06
  | .noHeads => 0x07
  | .unknown => 0x08
  | .length => 0x09
  | .none => 0xFF

/-- R171: the response frame, a code byte, a 2-byte length and the body. -/
def Response.frame (r : Response) : List Byte := byteResponse r.code :: bytes2 r.body.length ++ r.body

/-- R157: the empty response. -/
def Response.emptyNone : Response := { code := .none, body := [] }

/-- A response without a body. -/
def Response.only (code : ResponseCode) : Response := { code := code, body := [] }

/-- An OK with a body. -/
def Response.okWith (body : List Byte) : Response := { code := .ok, body := body }

/-! ### Command bodies (R171); `none` where the length is not the table's (R172) -/

/-- The SET_HEAD body. -/
structure SetHeadBody where
  index : Byte
  enabled : Byte
  side : Byte
  windowStart : Nat
  windowWidth : Nat
  columnOrigin : Nat
  direction : Byte
  deriving DecidableEq, Repr

def readSetHead : List Byte → Option SetHeadBody
  | [i, e, sd, s1, s0, w1, w0, c1, c0, d] =>
    some
      { index := i, enabled := e, side := sd, windowStart := be16 s1 s0, windowWidth := be16 w1 w0,
        columnOrigin := be16 c1 c0, direction := d }
  | _ => none

/-- A body of one byte. -/
def readOneByte : List Byte → Option Byte
  | [b] => some b
  | _ => none

/-- The SET_LINE body: the fields that are present. -/
structure SetLineBody where
  pitch : Option Nat
  holdoff : Option Nat
  spliceDistance : Option Nat
  headWait : Option Nat
  offsetTop : Option Nat
  offsetBottom : Option Nat
  deriving DecidableEq, Repr

/-- Take a 2-byte field if its presence bit is set. -/
def takeField2 (present : Bool) (body : List Byte) : Option (Option Nat × List Byte) :=
  if present then
    match body with
    | hi :: lo :: rest => some (some (be16 hi lo), rest)
    | _ => none
  else some (none, body)

/-- Take a 4-byte field if its presence bit is set. -/
def takeField4 (present : Bool) (body : List Byte) : Option (Option Nat × List Byte) :=
  if present then
    match body with
    | b3 :: b2 :: b1 :: b0 :: rest => some (some (be32 b3 b2 b1 b0), rest)
    | _ => none
  else some (none, body)

/-- R171, R172: the presence byte marks the six fields in their order; the body is the marked fields and nothing more. -/
def readSetLine : List Byte → Option SetLineBody
  | [] => none
  | pr :: body => do
    let (pitch, body) ← takeField2 (bitOf pr 0) body
    let (holdoff, body) ← takeField2 (bitOf pr 1) body
    let (dist, body) ← takeField4 (bitOf pr 2) body
    let (wait, body) ← takeField2 (bitOf pr 3) body
    let (top, body) ← takeField4 (bitOf pr 4) body
    let (bottom, body) ← takeField4 (bitOf pr 5) body
    if body.isEmpty then
      some
        { pitch := pitch, holdoff := holdoff, spliceDistance := dist, headWait := wait, offsetTop := top,
          offsetBottom := bottom }
    else none

/-- The SET_CAL body; an entry is a dark value and a gain. -/
structure SetCalBody where
  side : Byte
  firstColumn : Nat
  entries : List (Nat × Nat)
  deriving DecidableEq, Repr

/-- The entries of a SET_CAL body, three bytes each; `none` if bytes are left over. -/
def readCalEntries : List Byte → Option (List (Nat × Nat))
  | [] => some []
  | d :: hi :: lo :: rest => (readCalEntries rest).map ((d.toNat, be16 hi lo) :: ·)
  | _ => none

/-- R171, R172: the entries are as many as the count says. -/
def readSetCal : List Byte → Option SetCalBody
  | sd :: f1 :: f0 :: n1 :: n0 :: rest =>
    match readCalEntries rest with
    | some entries =>
      if entries.length = be16 n1 n0 then some { side := sd, firstColumn := be16 f1 f0, entries := entries } else none
    | none => none
  | _ => none

/-- The TEACH body. -/
structure TeachBody where
  side : Byte
  n : Nat
  target : Nat
  deriving DecidableEq, Repr

def readTeach : List Byte → Option TeachBody
  | [sd, n1, n0, t] => some { side := sd, n := be16 n1 n0, target := t.toNat }
  | _ => none

/-- The SET_SIDE body. -/
structure SetSideBody where
  side : Byte
  width : Nat
  deriving DecidableEq, Repr

def readSetSide : List Byte → Option SetSideBody
  | [sd, w] => some { side := sd, width := w.toNat }
  | _ => none

/-- The SET_RECIPE body: the index and the recipe as it is carried. -/
structure SetRecipeBody where
  index : Byte
  recipe : Recipe
  deriving DecidableEq, Repr

def readSetRecipe : List Byte → Option SetRecipeBody
  | [i, pt, ma, gl, mb1, mb0, on, off, sh, ms1, ms0, rl1, rl0, fl] =>
    some
      { index := i
        recipe :=
          { pinThreshold := pt.toNat, minArea := ma.toNat, gapLines := gl.toNat, maxBlobLines := be16 mb1 mb0,
            streakOn := on.toNat, streakOff := off.toNat, shift := sh.toNat, minStreakLines := be16 ms1 ms0,
            reportLines := be16 rl1 rl0, lightEnable := bitOf fl 0, darkEnable := bitOf fl 1, markPinhole := bitOf fl 2,
            markLarge := bitOf fl 3, markStreakOpen := bitOf fl 4, markStreakContinue := bitOf fl 5 } }
  | _ => none

/-- The SET_LANE body. -/
structure SetLaneBody where
  bank : Byte
  side : Byte
  lane : Byte
  enabled : Byte
  spanFirst : Nat
  spanLast : Nat
  coatedFirst : Nat
  coatedLast : Nat
  recipe : Byte
  marker : Byte
  deriving DecidableEq, Repr

def readSetLane : List Byte → Option SetLaneBody
  | [bk, sd, ln, e, sf1, sf0, sl1, sl0, cf1, cf0, cl1, cl0, r, m] =>
    some
      { bank := bk, side := sd, lane := ln, enabled := e, spanFirst := be16 sf1 sf0, spanLast := be16 sl1 sl0,
        coatedFirst := be16 cf1 cf0, coatedLast := be16 cl1 cl0, recipe := r, marker := m }
  | _ => none

/-- The SWITCH_BANK body. -/
structure SwitchBankBody where
  mode : Byte
  position : Position
  deriving DecidableEq, Repr

def readSwitchBank : List Byte → Option SwitchBankBody
  | [m, b3, b2, b1, b0] => some { mode := m, position := BitVec.ofNat 32 (be32 b3 b2 b1 b0) }
  | _ => none

/-- The SET_MARKER body. -/
structure SetMarkerBody where
  index : Byte
  distance : Nat
  pulseWidth : Nat
  mergeWindow : Nat
  confirmTimeout : Nat
  mode : Byte
  deriving DecidableEq, Repr

def readSetMarker : List Byte → Option SetMarkerBody
  | [i, d3, d2, d1, d0, p1, p0, w1, w0, t1, t0, m] =>
    some
      { index := i, distance := be32 d3 d2 d1 d0, pulseWidth := be16 p1 p0, mergeWindow := be16 w1 w0,
        confirmTimeout := be16 t1 t0, mode := m }
  | _ => none

/-- The MARK body. -/
structure MarkBody where
  marker : Byte
  position : Position
  deriving DecidableEq, Repr

def readMark : List Byte → Option MarkBody
  | [k, b3, b2, b1, b0] => some { marker := k, position := BitVec.ofNat 32 (be32 b3 b2 b1 b0) }
  | _ => none

/-- The SET_FILTER body. -/
structure SetFilterBody where
  classes : ClassSet
  trigger : Nat
  staleTime : Nat
  deriving DecidableEq, Repr

def readSetFilter : List Byte → Option SetFilterBody
  | [f, t1, t0, s1, s0] => some { classes := readClassSet f, trigger := be16 t1 t0, staleTime := be16 s1 s0 }
  | _ => none

/-- A body of no bytes. -/
def readNothing : List Byte → Option Unit
  | [] => some ()
  | _ => none

/-! ### The delivered record (R173, R174) -/

/-- The code of a first kind; an absent one's byte is 0. -/
def byteFirstKind : Option DefectKind → List Byte
  | none => [0]
  | some .pinhole => [0x01]
  | some .streakOpen => [0x02]
  | some .streakContinue => [0x03]

/-- The bytes of an optional position or sequence number; 0 where it is absent. -/
def bytesPosOr0 : Option (BitVec 32) → List Byte
  | none => [0, 0, 0, 0]
  | some p => bytesPos p

/-- The kind codes of R174. -/
def Content.code : Content → Byte
  | .pinhole .. => 0x01
  | .streakOpen .. => 0x02
  | .streakContinue .. => 0x03
  | .streakClose .. => 0x04
  | .blind .. => 0x10
  | .dropped .. => 0x11
  | .skipped .. => 0x12
  | .fired .. => 0x20
  | .suppressed .. => 0x21
  | .late .. => 0x22
  | .lost .. => 0x23
  | .unconfirmed .. => 0x24
  | .run .. => 0x30
  | .splice .. => 0x31
  | .spliceArrived .. => 0x32
  | .bankSwitched .. => 0x33
  | .teachDone .. => 0x34
  | .teachAborted .. => 0x35
  | .encoderFault .. => 0x36
  | .headState .. => 0x37
  | .overflowRuns .. => 0x40
  | .overflowBlobs .. => 0x40
  | .overflowStreaks .. => 0x40
  | .overflowSplices .. => 0x40

/-- Presence bits 0 and 1 of a mark record: source and first kind. -/
def MarkFields.presence (f : MarkFields) : Nat := bitAt f.source.isSome 0 + bitAt f.firstKind.isSome 1

/-- The presence byte of R174. -/
def Content.presence : Content → Nat
  | .streakContinue .. => 1
  | .streakClose .. => 3
  | .fired f .. => f.presence
  | .suppressed f .. => f.presence
  | .late f => f.presence
  | .lost f => f.presence
  | .unconfirmed f => f.presence
  | .run _ _ port => bitAt port.isSome 0
  | .splice _ arrival => bitAt arrival.isSome 0
  | _ => 0

/-- Bytes 12 to 30 of a streak record: start, end, bin, first column, polarity, reason, length, peak grey, marker. -/
def StreakFields.bytes (f : StreakFields) (stop : List Byte) (reason : List Byte) : List Byte :=
  bytesPos f.start ++ stop ++ bytes2 f.bin ++ bytes2 f.firstColumn ++ bytePolarity f.polarity ++ reason
    ++ bytes2 f.length ++ bytesSigned2 f.peakGrey ++ byteIndexOrNone f.marker

/-- Bytes 12 to 25 of a mark record: marker, flags, first kind, a byte not used, source, fire position, merge count. -/
def MarkFields.bytes (f : MarkFields) (flags mergeCount : Nat) : List Byte :=
  byte1 f.marker.val ++ byte1 flags ++ byteFirstKind f.firstKind ++ [0] ++ bytesPosOr0 f.source ++ bytesPos f.firePos
    ++ bytes2 mergeCount

/-- The fields of a kind from byte 12 on, as far as they reach. -/
def Content.fields : Content → List Byte
  | .pinhole last fc lc area peak lines flags marker =>
    bytesPos last ++ bytes2 fc ++ bytes2 lc ++ bytes2 area ++ byte1 peak
      ++ byte1 (bitAt flags.merged 0 + bitAt flags.large 1 + bitAt flags.truncated 2 + bitAt flags.mapChange 3)
      ++ bytes2 lines ++ byteIndexOrNone marker
  | .streakOpen f => f.bytes [0, 0, 0, 0] [0]
  | .streakContinue f stop => f.bytes (bytesPos stop) [0]
  | .streakClose f stop reason => f.bytes (bytesPos stop) (byteReason reason)
  | .blind last head cause count => bytesPos last ++ byte1 head.val ++ byteBlindCause cause ++ bytes2 count
  | .dropped last count => bytesPos last ++ bytes2 count
  | .skipped last count preceding => bytesPos last ++ bytes2 count ++ bytes2 preceding.toNat
  | .fired f mergeCount extended forced => f.bytes (bitAt extended 0 + bitAt forced 1) mergeCount
  | .suppressed f mergeCount => f.bytes 0 mergeCount
  | .late f => f.bytes 0 0
  | .lost f => f.bytes 0 0
  | .unconfirmed f => f.bytes 0 0
  | .run former new port => byteRunState former ++ byteRunState new ++ (port.map bytePort).getD [0]
  | .splice previous arrival => bytesPos previous ++ bytesPosOr0 arrival
  | .spliceArrived capture linePosition applied => bytesPos capture ++ bytesPos linePosition ++ byteBool applied
  | .bankSwitched bank mode => byteBank bank ++ byteSwitchMode mode
  | .teachDone n target taught untaught => bytes2 n ++ byte1 target ++ [0] ++ bytes2 taught ++ bytes2 untaught
  | .teachAborted reason n taken => byteAbort reason ++ [0] ++ bytes2 n ++ bytes2 taken
  | .encoderFault highWater => bytesPos highWater
  | .headState head former new cause => byte1 head.val ++ byteHeadState former ++ byteHeadState new ++ byteHeadCause cause
  | .overflowRuns count firstColumn => [0, 0] ++ bytes2 count ++ bytes2 firstColumn
  | .overflowBlobs count firstColumn => [1, 0] ++ bytes2 count ++ bytes2 firstColumn
  | .overflowStreaks bin sign start => [2, 0] ++ bytes2 bin ++ bytePolarity sign ++ [0, 0, 0] ++ bytesPos start
  | .overflowSplices capture => [3, 0, 0, 0, 0, 0, 0, 0] ++ bytesPos capture

/-- Unused bytes are sent as 0: fill to n bytes. -/
def padTo (n : Nat) (bs : List Byte) : List Byte := bs ++ List.replicate (n - bs.length) 0

/-- R173, R174: the 32 bytes of a delivered record. -/
def Record.bytes (r : Record) : List Byte :=
  bytesPos r.seq ++ [r.draft.content.code] ++ byteSide r.draft.side ++ byteIndexOrNone r.draft.lane
    ++ byte1 r.draft.content.presence ++ bytesPos r.draft.position ++ padTo 20 r.draft.content.fields

/-! ### Response bodies (R172) -/

/-- The geometry record as in the SET_HEAD body. -/
def Geometry.bytes (g : Geometry) (h : HeadId) : List Byte :=
  byte1 h.val ++ byteBool g.enabled ++ byteSide (some g.side) ++ bytes2 g.windowStart ++ bytes2 g.windowWidth
    ++ bytes2 g.columnOrigin ++ byteDirection g.direction

/-- R36, R172: the GET_HEAD response body. -/
def Head.bytes (r : Head) (h : HeadId) : List Byte :=
  r.geometry.bytes h ++ byteHeadState r.state ++ byteBool r.linkUp ++ bytes2 r.misses
    ++ bytes2 r.counters.accepted.toNat ++ bytes2 r.counters.corrected.toNat ++ bytes2 r.counters.uncorrectable.toNat
    ++ bytes2 r.counters.crc.toNat ++ bytes2 r.counters.late.toNat ++ bytes2 r.counters.future.toNat
    ++ bytes2 r.counters.badHeader.toNat

/-- The marker record as in the SET_MARKER body. -/
def MarkerRecord.bytes (r : MarkerRecord) (k : MarkerId) : List Byte :=
  byte1 k.val ++ bytes4 r.distance ++ bytes2 r.pulseWidth ++ bytes2 r.mergeWindow ++ bytes2 r.confirmTimeout
    ++ byteMarkerMode r.mode

/-- R152, R172: the GET_MARKER response body. -/
def State.markerBytes (s : State) (k : MarkerId) : List Byte :=
  let m := s.marker k
  let mine := s.marks.orders.filter (·.marker = k)
  m.record.bytes k ++ byteOutput m.output ++ byteBool m.window.isSome ++ bytesPos m.capture ++ bytesPos m.prevCapture
    ++ bytes2 mine.length ++ byteBool mine.head?.isSome ++ bytesPosOr0 (mine.head?.map (·.firePos))

/-- R161, R172: the side items of GET_STATUS. -/
def State.sideStatusBytes (s : State) (side : Side) : List Byte :=
  let asm := s.asm.get side
  let eng := s.eng.get side
  bytes2 asm.slots.length ++ bytes2 asm.queue.length ++ bytes2 eng.blobs.length ++ bytes2 eng.streaks.length
    ++ byteBool eng.teach.isSome ++ bytes2 ((eng.teach.map (·.n)).getD 0) ++ bytes2 ((eng.teach.map (·.taken)).getD 0)
    ++ byteBank (s.lanes.active.get side)

/-- R65, R172: the pending switch in GET_STATUS. -/
def switchBytes : Option SwitchRecord → List Byte
  | none => [0xFF, 0, 0, 0, 0, 0, 0, 0]
  | some w =>
    byteSwitchMode w.mode ++ byteBool w.position.isSome ++ bytesPosOr0 w.position ++ byteBool w.switched.top
      ++ byteBool w.switched.bottom

/-- R161, R172: the GET_STATUS response body. -/
def State.statusBytes (s : State) : List Byte :=
  byteRunState s.runState ++ bytesPos s.pos.web ++ bytesPos s.pos.highWater ++ bytes2 s.pos.lineNumber.toNat
    ++ byteBool s.pos.encoderFault ++ s.sideStatusBytes .top ++ s.sideStatusBytes .bottom ++ switchBytes s.lanes.switch
    ++ bytesPos s.store.oldestSeq ++ bytesPos s.store.nextSeq ++ bytes2 s.marks.orders.length

/-- R160, R172: the GET_NOTICE response body. -/
def State.noticeBytes (s : State) (p : Port) : List Byte :=
  let set := s.pendingEnabled p
  let c := s.ports.get p
  byteNotice set.highest ++ byteNoticeSet set
    ++ (if set.highest = some .portFault then byteFaultCause c.faultCause ++ byte1 c.faultCount else [])

/-- R172: the READ_RECORDS response body. -/
def readBody (lost : Nat) (records : List Record) (pending : Nat) : List Byte :=
  byteBool (decide (lost ≠ 0)) ++ bytes2 lost ++ byte1 records.length ++ records.flatMap Record.bytes ++ bytes2 pending

end Sys2Proof.Machine
end

