-- ==== Sys2Proof/Machine/Ports.lean ====
section
/-! DEFINITION. The command cycle of a client port, which every command goes through (R154 to R156, R172). -/

namespace Sys2Proof.Machine

/-- R154: the status of a port changes outside a transfer: a transfer whose chip select has been asserted before has shown the former
status, and whether there is one is free (log 6). -/
def State.noteTransfer (s : State) (p : Port) : State :=
  let shown := if Config.transferBegun s.freeDraws then some (s.statusByte p) else none
  { s with freeDraws := s.freeDraws + 1 }.modPort p fun c => { c with shownStatus := c.shownStatus.or shown }

/-- R154: the first byte that a transfer shifts out, the status byte of the port as it stood when the chip select was asserted. -/
def State.statusOut (s : State) (p : Port) : Byte := (s.ports.get p).shownStatus.getD (s.statusByte p)

/-- R154, R157: a transfer ends that has shifted out the status byte and then these bytes. -/
def State.shiftOut (s : State) (p : Port) (bytes : List Byte) : State :=
  s.modPort p fun c => { c with dataOut := s.statusOut p :: bytes, shownStatus := none }

/-- R154: a command transfer shifts out the status byte and then filler, one byte for each byte shifted in. -/
def State.shiftFiller (s : State) (p : Port) (n : Nat) : State := s.shiftOut p (List.replicate n 0x00)

/-- R155: the port takes a command; a held response is discarded unfetched. -/
def State.beginCommand (s : State) (p : Port) : State := s.modPort p fun c => { c with phase := .executing, held := none }

/-- R155: the response is held at the port, and the port becomes RESPONSE_HELD. -/
def State.respond (s : State) (p : Port) (r : Response) : State :=
  s.modPort p fun c => { c with phase := .responseHeld, held := some r }

/-- 10.3: a refusal; its response has length 0 (R172). -/
def State.refuse (s : State) (p : Port) (code : ResponseCode) : State := s.respond p (.only code)

/-- 10.3: OK without a body. -/
def State.answerOk (s : State) (p : Port) : State := s.respond p (.only .ok)

/-- R154, R155, R156 check 2: a whole command frame with a body of `len` bytes: discarded in INIT, lost while the port is
EXECUTING, and otherwise taken and handed to `act`. -/
def takeFrame (p : Port) (len : Nat) (act : State → State) (s : State) : State :=
  let s := s.shiftFiller p (2 + len)
  if s.runState = .init then s
  else if (s.ports.get p).phase = .executing then s.portFault p .commandLost
  else act (s.beginCommand p)

/-- R156 check 4: a command whose body is not of a size the command allows is answered LENGTH; any other is handed to its
block. -/
def takeCommand {β : Type} (p : Port) (body : List Byte) (read : List Byte → Option β) (act : β → State → State)
    (s : State) : State :=
  takeFrame p body.length
    (fun s =>
      match read body with
      | none => s.refuse p .length
      | some b => act b s)
    s

end Sys2Proof.Machine
end

