-- ==== Sys2Proof/Machine/HeadStates.lean ====
section
/-! DEFINITION. Changes of head state and their report (R34), which link events, packets, slot closures, START and SET_HEAD
all make. -/

namespace Sys2Proof.Machine

/-- R34: a head moves to a state; a change offers a HEAD_STATE record and raises HEAD_CHANGE at each port. -/
def State.setHeadState (s : State) (h : HeadId) (new : HeadState) (cause : HeadCause) : State :=
  let former := (s.head h).state
  if former = new then s
  else
    let s := s.modHead h fun r => { r with state := new }
    let s := s.offer (.head h)
      { side := some (s.head h).geometry.side, lane := none, position := s.pos.web,
        content := .headState h former new cause }
    s.raiseHeadChange

/-- Set a head's consecutive-miss count. -/
def State.setMisses (s : State) (h : HeadId) (n : Nat) : State := s.modHead h fun r => { r with misses := n }

end Sys2Proof.Machine
end

