-- ==== Sys2Proof/Machine/Assembly.lean ====
section
/-! DEFINITION. Line assembly (chapter 3): opening slots, contributions, closures, misses, the line queue, drop runs and
blind runs. -/

namespace Sys2Proof.Machine

/-! ### Closing a slot -/

/-- R43: the result of a head at the closure of a slot. -/
def headResult (slot : Slot) (h : HeadId) : HeadResult :=
  match slot.contributions[h] with
  | some c =>
    match c.mark with
    | .full => .full
    | .short => .short
    | .crc => .crc
  | none => if slot.absent.contains h && !slot.expected.contains h then .absent else .missing

/-- R27, R28: the least column of a head's span. -/
def Geometry.spanFirst (g : Geometry) : Nat :=
  match g.direction with
  | .ascending => g.columnOrigin
  | .descending => g.columnOrigin - (g.windowWidth - 1)

/-- R27, R28: the greatest column of a head's span. -/
def Geometry.spanLast (g : Geometry) : Nat := g.spanFirst + (g.windowWidth - 1)

/-- R43: the columns a head gives to the line. -/
def resultCols (slot : Slot) (h : HeadId) : List (Nat × Byte) :=
  match slot.contributions[h] with
  | some c => if c.mark = .crc then [] else c.cols
  | none => []

/-- The enabled heads of a side, in ascending index. -/
def State.headsOn (s : State) (side : Side) : List HeadId := allHeads.filter (s.headOn side)

/-- R43: the columns of the line, from the heads in the order of their spans. -/
def State.lineCols (s : State) (side : Side) (slot : Slot) : List (Nat × Byte) :=
  ((s.headsOn side).insertionSort fun g h =>
    (s.head g).geometry.spanFirst ≤ (s.head h).geometry.spanFirst).flatMap (resultCols slot)

/-- R32, R44: the miss accounting of one head at a closure. -/
def State.accountHead (slot : Slot) (s : State) (h : HeadId) : State :=
  if slot.contributions[h].isSome then s.setMisses h 0
  else if slot.expected.contains h then
    let s := s.setMisses h (satSucc 255 (s.head h).misses)
    if (s.head h).state = .live ∧ 3 ≤ (s.head h).misses then s.setHeadState h .mute .misses else s
  else s

/-- R44: the miss accounting of a closure, heads of the side in ascending index. -/
def State.accountMisses (s : State) (side : Side) (slot : Slot) : State := (s.headsOn side).foldl (·.accountHead slot) s

/-! ### Coverage runs -/

/-- R47, R51: close an open drop run with its DROPPED record. -/
def State.closeDropRun (s : State) (side : Side) : State :=
  match (s.asm.get side).dropRun with
  | none => s
  | some d =>
    (s.modAsm side fun a => { a with dropRun := none }).offer (.assembler side)
      { side := some side, lane := none, position := d.first, content := .dropped d.last d.count }

/-- R49: close a head's open blind run with its BLIND record. -/
def State.closeBlindRun (side : Side) (s : State) (h : HeadId) : State :=
  match (s.asm.get side).blindRuns[h] with
  | none => s
  | some r =>
    (s.modAsm side fun a => { a with blindRuns := a.blindRuns.set h none }).offer (.assembler side)
      { side := some side, lane := none, position := r.first, content := .blind r.last h r.cause r.count }

/-- R48: a line in which the head's columns were not all valid opens or extends its blind run. -/
def State.extendBlindRun (s : State) (side : Side) (h : HeadId) (cause : BlindCause) (position : Position) : State :=
  s.modAsm side fun a =>
    { a with
      blindRuns :=
        a.blindRuns.set h
          (some
            (match a.blindRuns[h] with
            | none => { cause := cause, first := position, last := position, count := 1 }
            | some r => { r with last := position, count := satSucc Config.max16 r.count })) }

/-- R48: the blind run of one head at a queued line. -/
def State.updateBlindRun (side : Side) (slot : Slot) (s : State) (h : HeadId) : State :=
  match headResult slot h with
  | .full => s.closeBlindRun side h
  | .short => s.extendBlindRun side h .short slot.position
  | .crc => s.extendBlindRun side h .crc slot.position
  | .missing => s.extendBlindRun side h .missing slot.position
  | .absent => s.extendBlindRun side h .absent slot.position

/-- R46: a line dropped whole opens or extends the drop run. -/
def extendDropRun (position : Position) : Option DropRun → DropRun
  | none => { first := position, last := position, count := 1 }
  | some d => { d with last := position, count := satSucc Config.max16 d.count }

/-! ### The queue offer and the cascade -/

/-- R45 to R48: the closed line is queued, closing a drop run and updating the blind runs, or dropped whole. -/
def State.offerLine (s : State) (side : Side) (slot : Slot) (cols : List (Nat × Byte)) : State :=
  if (s.asm.get side).queue.length < Config.queueDepth then
    let drop := (s.asm.get side).dropRun.map (·.count)
    let s := s.closeDropRun side
    let s := s.modAsm side fun a =>
      { a with queue := a.queue ++ [{ position := slot.position, cols := cols, precedingDrop := drop }] }
    (s.headsOn side).foldl (State.updateBlindRun side slot) s
  else s.modAsm side fun a => { a with dropRun := some (extendDropRun slot.position a.dropRun) }

/-- R43 to R45: close the oldest open slot of a side: build the line, free the slot, account the misses, offer the line. -/
def State.closeOldest (s : State) (side : Side) : State :=
  match (s.asm.get side).slots with
  | [] => s
  | slot :: rest =>
    let cols := s.lineCols side slot
    let s := s.modAsm side fun a => { a with slots := rest }
    (s.accountMisses side slot).offerLine side slot cols

/-- R42: while the oldest open slot is READY, it closes; at most n closures. -/
def State.cascade (side : Side) : Nat → State → State
  | 0, s => s
  | n + 1, s =>
    match (s.asm.get side).slots with
    | [] => s
    | slot :: _ => if slot.ready then State.cascade side n (s.closeOldest side) else s

/-- R42: close the READY slots that no older slot holds back. -/
def State.closeReady (s : State) (side : Side) : State := s.cascade side (s.asm.get side).slots.length

/-! ### Opening and filling slots -/

/-- Change the first slot of this line number. -/
def updateSlot (line : LineNo) (f : Slot → Slot) : List Slot → List Slot
  | [] => []
  | slot :: rest => if slot.line = line then f slot :: rest else slot :: updateSlot line f rest

/-- The open slot of a line number. -/
def State.slotOf (s : State) (side : Side) (line : LineNo) : Option Slot :=
  (s.asm.get side).slots.find? (·.line = line)

/-- R13: the line position of a trigger position for a side. -/
def State.linePosition (s : State) (side : Side) (trigger : Position) : Position :=
  trigger - BitVec.ofNat 32 (s.pos.offset.get side)

/-- R38: the slot a trigger opens. -/
def State.newSlot (s : State) (side : Side) (line : LineNo) (trigger : Position) : Slot where
  line := line
  position := s.linePosition side trigger
  expected := (s.headsOn side).filter fun h => (s.head h).state = .live
  absent := (s.headsOn side).filter fun h => (s.head h).state = .absent
  contributions := Vector.replicate 8 none
  deadline := s.now + (s.asm.get side).headWait
  ready := false

/-- R38, R40: an issued trigger reaches an assembler. -/
def State.openSlot (s : State) (side : Side) (line : LineNo) (trigger : Position) : State :=
  if s.hasHead side then
    let s := if (s.asm.get side).slots.length < Config.maxSlots then s else (s.closeOldest side).closeReady side
    s.modAsm side fun a => { a with slots := a.slots ++ [s.newSlot side line trigger] }
  else s

/-- R13, R38: an issued trigger is handed to both assemblers. -/
def State.openSlots (s : State) (line : LineNo) (trigger : Position) : State :=
  (s.openSlot .top line trigger).openSlot .bottom line trigger

/-- R39: a GATHERING slot with an expected head whose expected heads have all contributed becomes READY. -/
def Slot.completed (slot : Slot) : Bool :=
  !slot.expected.isEmpty && slot.expected.all fun h => slot.contributions[h].isSome

/-- R39: a contribution is added to a slot. -/
def Slot.contribute (h : HeadId) (c : Contribution) (slot : Slot) : Slot :=
  let slot := { slot with contributions := slot.contributions.set h (some c) }
  { slot with ready := slot.ready || slot.completed }

/-- R39, R42: a contribution reaches the slot of its line. -/
def State.addContribution (s : State) (side : Side) (line : LineNo) (h : HeadId) (c : Contribution) : State :=
  (s.modAsm side fun a => { a with slots := updateSlot line (Slot.contribute h c) a.slots }).closeReady side

/-! ### The wait expiry -/

/-- R41, R42: the deadline of a GATHERING slot is reached; that of a READY slot changes nothing. -/
def State.waitExpiry (s : State) (side : Side) (line : LineNo) : State :=
  match s.slotOf side line with
  | none => s
  | some slot =>
    if slot.ready then s
    else
      ((s.reachTime slot.deadline).modAsm side fun a =>
        { a with slots := updateSlot line (fun slot => { slot with ready := true }) a.slots }).closeReady side

/-- WAIT_EXPIRY (R41). -/
def execWaitExpiry (side : Side) (line : LineNo) (s : State) : Host.Outcome State Fault Refusal :=
  .next (s.waitExpiry side line)

end Sys2Proof.Machine
end

