-- ==== Sys2Proof/Machine/Correction.lean ====
section
/-! DEFINITION. Flat-field correction, lane levels and the teach (chapter 5): stages 3, 4 and 7 of the line operation. -/

namespace Sys2Proof.Machine

/-! ### Stage 3 -/

/-- R76: the corrected value of a raw value r under dark value d and gain g. -/
def correctedValue (r d g : Nat) : Nat := min 255 (((r - d) * g + 2048) / 4096)

/-- R77: the calibration entry of a column. -/
def Engine.calEntry (e : Engine) (column : Nat) : CalEntry := sparseGet CalEntry.unity e.cal column

/-- R77: write the calibration entry of a column. -/
def Engine.setCalEntry (e : Engine) (column : Nat) (c : CalEntry) : Engine :=
  { e with cal := sparseSet CalEntry.unity e.cal column c }

/-- Stage 3 (R76): the non-blind columns of a line with their corrected values. -/
def Engine.correct (e : Engine) (cols : List (Nat × Byte)) : List (Nat × Nat) :=
  cols.map fun c => (c.1, correctedValue c.2.toNat (e.calEntry c.1).dark (e.calEntry c.1).gain)

/-! ### Stage 4 -/

/-- R79, R80: the level of a lane over the corrected line. -/
def laneLevel (r : LaneRecord) (cols : List (Nat × Nat)) : LaneLevel :=
  if r.enabled then
    let zone := (cols.filter fun c => decide (r.coatedFirst ≤ c.1) && decide (c.1 ≤ r.coatedLast)).map (·.2)
    if zone.isEmpty then .blind else .mean (zone.sum / zone.length)
  else .none

/-- Stage 4 (R79, R80): the levels of the lanes of the bank in force. -/
def Engine.stageLevels (e : Engine) (bank : LaneBank) (cols : List (Nat × Nat)) : Engine :=
  { e with
    laneLevels :=
      allLanes.foldl (fun (v : Vector LaneLevel 16) (l : LaneId) => v.set l (laneLevel bank[l] cols))
        (Vector.replicate 16 .none) }

/-! ### Stage 7 -/

/-- R82: one non-blind column of a line is added to the teach. -/
def observeColumn (e : Engine) (columns : List (Nat × TeachColumn)) (c : Nat × Byte) : List (Nat × TeachColumn) :=
  let t := sparseGet TeachColumn.zero columns c.1
  sparseSet TeachColumn.zero columns c.1
    { sum := t.sum + (c.2.toNat - (e.calEntry c.1).dark), observed := t.observed + 1 }

/-- R82: a line is added to the teach and counted. -/
def Engine.observeLine (e : Engine) (t : Teach) (cols : List (Nat × Byte)) : Teach :=
  { t with columns := cols.foldl (observeColumn e) t.columns, taken := t.taken + 1 }

/-- R83: a column is taught when it was observed in at least n / 2 lines. -/
def isTaught (n : Nat) (c : TeachColumn) : Bool := decide (n / 2 ≤ c.observed)

/-- R83: the gain of a taught column. -/
def taughtGain (target : Nat) (c : TeachColumn) : Nat :=
  let avg := c.sum / c.observed
  if avg = 0 then Config.maxGain else min Config.maxGain ((4096 * target + avg / 2) / avg)

/-- R83: the observed columns that are taught. -/
def Teach.taughtColumns (t : Teach) : List (Nat × TeachColumn) := t.columns.filter fun c => isTaught t.n c.2

/-- R83, R84: the teach ends: the gains of the taught columns are written, the TEACH_DONE record joins the record list, and
the side is no longer teaching. -/
def Engine.finishTeach (e : Engine) (side : Side) (position : Position) (t : Teach) : Engine :=
  let taught := t.taughtColumns
  let e := taught.foldl (fun e c => e.setCalEntry c.1 { (e.calEntry c.1) with gain := taughtGain t.target c.2 }) e
  { e with teach := none }.addRecords side
    [({ side := some side, lane := none, position := position,
        content := .teachDone t.n t.target taught.length (Config.columns - taught.length) }, none)]

/-- Stage 7 (R82, R83) for a carried line with its raw columns. -/
def Engine.stageTeach (e : Engine) (side : Side) (position : Position) (cols : List (Nat × Byte)) : Engine :=
  match e.teach with
  | none => e
  | some t =>
    let t := e.observeLine t cols
    if t.taken = t.n then e.finishTeach side position t else { e with teach := some t }

/-- R85, R86: the TEACH_ABORTED record. -/
def teachAbortedRecord (side : Side) (reason : AbortReason) (position : Position) (t : Teach) : Made :=
  ({ side := some side, lane := none, position := position, content := .teachAborted reason t.n t.taken }, none)

end Sys2Proof.Machine
end

