-- ==== Sys2Proof/Machine/Pinhole.lean ====
section
/-! DEFINITION. Pinhole detection (chapter 6), stage 5 of the line operation: candidates, runs, the blob update, the walk of
the blob table and the closing of blobs. `cols` is the line after stage 3: its non-blind columns with their corrected
values, in ascending order. -/

namespace Sys2Proof.Machine

/-! ### Candidates and runs -/

/-- R88: a candidate column with its contrast. -/
structure CandidatePixel where
  column : Nat
  lane : LaneId
  contrast : Nat
  deriving DecidableEq, Repr

/-- The column lies in the lane's coated zone. -/
def LaneRecord.coats (r : LaneRecord) (column : Nat) : Bool :=
  decide (r.coatedFirst ≤ column) && decide (column ≤ r.coatedLast)

/-- The enabled lane whose coated zone holds a column. -/
def coatedLane (bank : LaneBank) (column : Nat) : Option LaneId := (enabledLanes bank).find? fun l => bank[l].coats column

/-- R88: a non-blind column is a candidate when its contrast c - m is at least the pin_threshold of its lane's recipe. -/
def candidate (bank : LaneBank) (recipes : Recipes) (levels : Vector LaneLevel 16) (col : Nat × Nat) :
    Option CandidatePixel :=
  match coatedLane bank col.1 with
  | none => none
  | some lane =>
    match levels[lane] with
    | .mean m =>
      if m + (laneRecipe bank recipes lane).pinThreshold ≤ col.2 then
        some { column := col.1, lane := lane, contrast := col.2 - m }
      else none
    | _ => none

/-- R89: a candidate extends the newest run when it is the next column of the same lane, and begins a run otherwise. -/
def extendRuns (runs : List Run) (x : CandidatePixel) : List Run :=
  match runs with
  | [] => [{ lane := x.lane, first := x.column, last := x.column, peak := x.contrast }]
  | r :: rest =>
    if r.lane = x.lane ∧ x.column = r.last + 1 then { r with last := x.column, peak := max r.peak x.contrast } :: rest
    else { lane := x.lane, first := x.column, last := x.column, peak := x.contrast } :: r :: rest

/-- R89: the runs of the line, in ascending order of first column. -/
def findRuns (bank : LaneBank) (recipes : Recipes) (levels : Vector LaneLevel 16) (cols : List (Nat × Nat)) : List Run :=
  ((cols.filterMap (candidate bank recipes levels)).foldl extendRuns []).reverse

/-! ### The blob update -/

/-- A blob during the blob update of a line: the previous spans that stand for it, its own and those of the blobs merged
into it (R92), and the runs assigned to it in the line (R93). A blob opened in the line has no previous span. -/
structure WorkBlob where
  blob : Blob
  spans : List (Nat × Nat)
  runs : List Run
  deriving DecidableEq, Repr

/-- R92: a run touches a blob of its lane by one of the spans that stand for it. -/
def WorkBlob.touchedBy (r : Run) (x : WorkBlob) : Bool :=
  decide (x.blob.lane = r.lane)
    && x.spans.any fun span => decide (r.first ≤ span.2 + 1) && decide (span.1 ≤ r.last + 1)

/-- R94: the earlier of two first positions, the one that is behind the other; which of two positions exactly 2^31 apart it is
is free (log 14). -/
def earlierPos (p q : Position) : Position :=
  if ahead p q then q else if atOrAhead q p || Config.firstIsEarlier p q then p else q

/-- R94: a younger blob is merged into an older one. -/
def WorkBlob.absorb (x y : WorkBlob) : WorkBlob where
  blob :=
    { x.blob with
      firstColumn := min x.blob.firstColumn y.blob.firstColumn
      lastColumn := max x.blob.lastColumn y.blob.lastColumn
      area := satAdd Config.max16 x.blob.area y.blob.area
      firstPos := earlierPos x.blob.firstPos y.blob.firstPos
      peak := max x.blob.peak y.blob.peak
      lines := max x.blob.lines y.blob.lines
      merged := true }
  spans := x.spans ++ y.spans
  runs := x.runs ++ y.runs

/-- R93, R94: the oldest blob the run touches takes the run and every other blob it touches. R94 does not say in which order several
younger blobs are merged into it: DESIGN CHOICE (log 30), oldest first; unsafe, since the resulting first position depends on the order
when the first positions are spread over more than 2^31. -/
def assignRun (r : Run) : List WorkBlob → List WorkBlob
  | [] => []
  | x :: rest =>
    if x.touchedBy r then
      let merged := (rest.filter (·.touchedBy r)).foldl WorkBlob.absorb x
      { merged with runs := merged.runs ++ [r] } :: rest.filter fun y => !y.touchedBy r
    else x :: assignRun r rest

/-- R93: the blob a run opens. -/
def openBlob (position : Position) (r : Run) : WorkBlob where
  blob :=
    { lane := r.lane, firstPos := position, lastPos := position, firstColumn := r.first, lastColumn := r.last,
      prevLo := r.first, prevHi := r.last, area := 0, peak := 0, lines := 0, misses := 0, merged := false }
  spans := []
  runs := [r]

/-- R93, R95: take one run; the second component lists the runs dropped for want of a free blob, newest first. -/
def takeRun (position : Position) (acc : List WorkBlob × List Run) (r : Run) : List WorkBlob × List Run :=
  if acc.1.any (·.touchedBy r) then (assignRun r acc.1, acc.2)
  else if acc.1.length < Config.maxBlobs then (acc.1 ++ [openBlob position r], acc.2)
  else (acc.1, r :: acc.2)

/-- The blob table at the start of the blob update. -/
def startUpdate (blobs : List Blob) : List WorkBlob :=
  blobs.map fun x => { blob := x, spans := [(x.prevLo, x.prevHi)], runs := [] }

/-- R96: the update of a blob that received the run r and the runs `rest` in the line. -/
def updateBlob (position : Position) (x : Blob) (r : Run) (rest : List Run) : Blob :=
  let runs := r :: rest
  let lo := rest.foldl (fun n y => min n y.first) r.first
  let hi := rest.foldl (fun n y => max n y.last) r.last
  { x with
    area := runs.foldl (fun n y => satAdd Config.max16 n (y.last - y.first + 1)) x.area
    peak := runs.foldl (fun n y => max n y.peak) x.peak
    firstColumn := min x.firstColumn lo
    lastColumn := max x.lastColumn hi
    prevLo := lo
    prevHi := hi
    misses := 0
    lines := satSucc Config.max16 x.lines
    lastPos := position }

/-! ### Closing a blob -/

/-- R104: the governing flag of a PINHOLE record. -/
def pinholeFlag (recipe : Recipe) (flags : PinholeFlags) : Bool :=
  if flags.large then recipe.markLarge else recipe.markPinhole

/-- R101: a closing blob makes a PINHOLE record when its area is at least min_area. `flags` gives the cause. -/
def closeBlob (side : Side) (bank : LaneBank) (recipes : Recipes) (flags : PinholeFlags) (x : Blob) : List Made :=
  let recipe := laneRecipe bank recipes x.lane
  let flags := { flags with merged := x.merged }
  if recipe.minArea ≤ x.area then
    [({ side := some side, lane := some x.lane, position := x.firstPos,
        content :=
          .pinhole x.lastPos x.firstColumn x.lastColumn x.area x.peak x.lines flags bank[x.lane].marker },
      some (pinholeFlag recipe flags))]
  else []

/-- No cause: closed by gap. -/
def PinholeFlags.gap : PinholeFlags := { merged := false, large := false, truncated := false, mapChange := false }

/-- R102, R103: every open blob closes, oldest first. -/
def closeBlobs (side : Side) (bank : LaneBank) (recipes : Recipes) (flags : PinholeFlags) (blobs : List Blob) :
    List Made :=
  blobs.flatMap (closeBlob side bank recipes flags)

/-! ### The walk -/

/-- The column is blind in the line. -/
def blindIn (cols : List (Nat × Nat)) (column : Nat) : Bool := !cols.any fun c => c.1 == column

/-- R97: a blob that received no run is frozen when its lane is blind, or a test column, one of lo - 1 to hi + 1 within the
coated zone, is blind in the line or lies within a run dropped by R90. -/
def frozen (bank : LaneBank) (levels : Vector LaneLevel 16) (cols : List (Nat × Nat)) (droppedRuns : List Run)
    (x : Blob) : Bool :=
  decide (levels[x.lane] = .blind)
    || (((List.range' (x.prevLo - 1) (x.prevHi + 2 - (x.prevLo - 1))).filter fun c =>
          bank[x.lane].coats c && decide (c < Config.columns)).any fun c =>
        blindIn cols c || droppedRuns.any fun r => decide (r.first ≤ c) && decide (c ≤ r.last))

/-- R97 to R100: what the walk does with one blob: the blob that stays open, if it does, and the records made. -/
def walkBlob (side : Side) (bank : LaneBank) (recipes : Recipes) (levels : Vector LaneLevel 16)
    (cols : List (Nat × Nat)) (droppedRuns : List Run) (position : Position) (x : WorkBlob) : List Blob × List Made :=
  let recipe := laneRecipe bank recipes x.blob.lane
  match x.runs with
  | r :: rest =>
    let b := updateBlob position x.blob r rest
    if recipe.maxBlobLines ≤ b.lines then ([], closeBlob side bank recipes { PinholeFlags.gap with large := true } b)
    else ([b], [])
  | [] =>
    if frozen bank levels cols droppedRuns x.blob then ([x.blob], [])
    else if x.blob.misses + 1 ≤ recipe.gapLines then ([{ x.blob with misses := x.blob.misses + 1 }], [])
    else ([], closeBlob side bank recipes PinholeFlags.gap x.blob)

/-- R90: the OVERFLOW record of kind RUNS. -/
def runsOverflow (side : Side) (position : Position) (droppedRuns : List Run) : List Made :=
  match droppedRuns with
  | [] => []
  | r :: _ =>
    [({ side := some side, lane := none, position := position,
        content := .overflowRuns (min Config.max16 droppedRuns.length) r.first }, none)]

/-- R95: the OVERFLOW record of kind BLOBS; `droppedRuns` in the order of their dropping. -/
def blobsOverflow (side : Side) (position : Position) (droppedRuns : List Run) : List Made :=
  match droppedRuns with
  | [] => []
  | r :: _ =>
    [({ side := some side, lane := some r.lane, position := position,
        content := .overflowBlobs droppedRuns.length r.first }, none)]

/-- R89, R90: the runs of the line are found; the first 256 are kept, and the later ones are counted and reported. The
second component lists the dropped runs. -/
def Engine.stageRuns (e : Engine) (side : Side) (position : Position) (bank : LaneBank) (recipes : Recipes)
    (cols : List (Nat × Nat)) : Engine × List Run :=
  let runs := findRuns bank recipes e.laneLevels cols
  let droppedRuns := runs.drop Config.maxRuns
  let kept : Engine :=
    { e with runList := runs.take Config.maxRuns, runsDropped := min Config.max16 droppedRuns.length }
  (kept.addRecords side (runsOverflow side position droppedRuns), droppedRuns)

/-- R91 to R100: the blob update and the walk; the run list is discarded when the stage ends. -/
def Engine.stageBlobs (e : Engine) (side : Side) (position : Position) (bank : LaneBank) (recipes : Recipes)
    (cols : List (Nat × Nat)) (droppedRuns : List Run) : Engine :=
  let taken : List WorkBlob × List Run := e.runList.foldl (takeRun position) (startUpdate e.blobs, [])
  let walked : List (List Blob × List Made) := taken.1.map (walkBlob side bank recipes e.laneLevels cols droppedRuns position)
  let after : Engine := { e with runList := [], blobDrops := taken.2.length, blobs := walked.flatMap fun w => w.1 }
  after.addRecords side (blobsOverflow side position taken.2.reverse ++ walked.flatMap fun w => w.2)

/-- Stage 5 (R72, R88 to R100). -/
def Engine.stagePinholes (e : Engine) (side : Side) (position : Position) (bank : LaneBank) (recipes : Recipes)
    (cols : List (Nat × Nat)) : Engine :=
  let found := e.stageRuns side position bank recipes cols
  found.1.stageBlobs side position bank recipes cols found.2

end Sys2Proof.Machine
end

