-- ==== Sys2Proof/Machine/Streak.lean ====
section
/-! DEFINITION. Streak detection (chapter 7), stage 6 of the line operation: evaluated bins, the accumulator, the bin states,
the streak table and the streak records. `cols` is the line after stage 3: its non-blind columns with their corrected
values. -/

namespace Sys2Proof.Machine

/-! ### Bins -/

/-- R109: the lane in whose coated zone every column of bin j lies. -/
def binLane (bank : LaneBank) (w j : Nat) : Option LaneId :=
  (enabledLanes bank).find? fun l =>
    decide (bank[l].coatedFirst ≤ j * w) && decide (j * w + w ≤ bank[l].coatedLast + 1)

/-- R107, R109: the evaluated bins of a side with their lanes, from bin 0 upward. -/
def evaluatedBins (bank : LaneBank) (w : Nat) : List (Nat × LaneId) :=
  (List.range (Config.columns / w)).filterMap fun j => (binLane bank w j).map (j, ·)

/-- The record of bin j. -/
def Engine.bin (e : Engine) (j : Nat) : Bin := sparseGet (Bin.quiet 0) e.bins j

/-- Replace the record of bin j. -/
def Engine.setBin (e : Engine) (j : Nat) (b : Bin) : Engine := { e with bins := sparseSet (Bin.quiet 0) e.bins j b }

/-- The corrected values of the columns of bin j that are not blind. -/
def binValues (cols : List (Nat × Nat)) (w j : Nat) : List Nat :=
  (cols.filter fun c => decide (j * w ≤ c.1) && decide (c.1 < j * w + w)).map (·.2)

/-- R111: the accumulator after a line whose bin average stands a - m above the lane mean. -/
def accumulate (shift : Nat) (s e : Int) : Int := s + (16 * e - s) / 2 ^ shift

/-! ### Polarity and conditions -/

/-- R113: the polarity of an accumulator value. -/
def polarity (s : Int) : Option Polarity := if 0 < s then some .light else if s < 0 then some .dark else none

/-- R113: the polarity is tracked in the line. -/
def tracked (r : Recipe) : Polarity → Bool
  | .light => r.lightEnable
  | .dark => r.darkEnable

/-- R113: the hold condition of a bin in CANDIDATE or STREAK. -/
def holds (r : Recipe) (b : Bin) (s : Int) : Bool :=
  decide (polarity s = some b.sign) && tracked r b.sign && decide (16 * r.streakOff ≤ s.natAbs)

/-- R113: a holding line is counted. -/
def Bin.hold (b : Bin) (s : Int) (position : Position) : Bin :=
  { b with
    s := s
    length := satSucc Config.max16 b.length
    peak := if b.peak.natAbs < s.natAbs then s else b.peak
    last := position }

/-! ### Records -/

/-- R121: the fields of a streak record. -/
def streakFields (bank : LaneBank) (w j : Nat) (b : Bin) (lane : Option LaneId) (sign : Polarity) (start : Position) :
    StreakFields :=
  { bin := j, firstColumn := j * w, polarity := sign, start := start, length := b.length, peakGrey := b.peak.tdiv 16,
    marker := lane.bind fun l => bank[l].marker }

/-- R115, R121, R122: the STREAK_OPEN record. -/
def streakOpenRecord (side : Side) (bank : LaneBank) (r : Recipe) (w j : Nat) (lane : LaneId) (b : Bin) : Made :=
  ({ side := some side, lane := some lane, position := b.start,
     content := .streakOpen (streakFields bank w j b (some lane) b.sign b.start) },
    some r.markStreakOpen)

/-- R121: lane, polarity and start position of a streak, read from the entry its bin owns. -/
def Engine.streakIdentity (e : Engine) (j : Nat) (b : Bin) (lane : Option LaneId) :
    Option LaneId × Polarity × Position :=
  match e.streaks.find? (·.bin = j) with
  | some entry => (some entry.lane, entry.sign, entry.start)
  | none => (lane, b.sign, b.start)

/-- R117, R121, R122: the STREAK_CONTINUE record. -/
def Engine.streakContinueRecord (e : Engine) (side : Side) (bank : LaneBank) (r : Recipe) (j : Nat) (lane : LaneId)
    (b : Bin) : Made :=
  let id := e.streakIdentity j b (some lane)
  ({ side := some side, lane := id.1, position := b.last,
     content := .streakContinue (streakFields bank e.binWidth j b id.1 id.2.1 id.2.2) b.last },
    some r.markStreakContinue)

/-- R118, R121, R122, R124, R125: the STREAK_CLOSE record; it has no governing flag. -/
def Engine.streakCloseRecord (e : Engine) (side : Side) (bank : LaneBank) (reason : CloseReason) (j : Nat)
    (lane : Option LaneId) (b : Bin) : Made :=
  let id := e.streakIdentity j b lane
  ({ side := some side, lane := id.1, position := b.last,
     content := .streakClose (streakFields bank e.binWidth j b id.1 id.2.1 id.2.2) b.last reason },
    none)

/-- R116: the OVERFLOW record of kind STREAKS. -/
def streaksOverflow (side : Side) (position : Position) (j : Nat) (lane : LaneId) (b : Bin) : Made :=
  ({ side := some side, lane := some lane, position := position, content := .overflowStreaks j b.sign b.start }, none)

/-- R124, R125: the STREAK_CLOSE records of every streak of the side, in ascending bin index. -/
def Engine.closeStreaks (e : Engine) (side : Side) (bank : LaneBank) (reason : CloseReason) : List Made :=
  (e.bins.filter fun jb => jb.2.state = .streak).map fun jb =>
    e.streakCloseRecord side bank reason jb.1 (binLane bank e.binWidth jb.1) jb.2

/-! ### Transitions -/

/-- What the transitions of one bin read: its side, line, bank, lane, recipe and index. -/
structure BinContext where
  side : Side
  position : Position
  bank : LaneBank
  recipe : Recipe
  lane : LaneId
  index : Nat

/-- R115, R116: the confirmation test of a candidate whose holding line has been counted. -/
def Engine.confirm (e : Engine) (x : BinContext) (b : Bin) : Engine :=
  if x.recipe.minStreakLines ≤ b.length then
    if e.streaks.length < Config.maxStreaks then
      let b : Bin := { b with state := .streak, waiting := false, sinceReport := 0 }
      let entry : StreakEntry := { bin := x.index, lane := x.lane, sign := b.sign, start := b.start }
      let e : Engine := { e with streaks := e.streaks ++ [entry] }
      (e.setBin x.index b).addRecords x.side
        [streakOpenRecord x.side x.bank x.recipe e.binWidth x.index x.lane b]
    else
      (e.setBin x.index { b with waiting := true }).addRecords x.side
        (if b.waiting then [] else [streaksOverflow x.side x.position x.index x.lane b])
  else e.setBin x.index b

/-- R114: a bin in QUIET with the new accumulator s. -/
def Engine.quietBin (e : Engine) (x : BinContext) (s : Int) : Engine :=
  match polarity s with
  | none => e.setBin x.index (Bin.quiet s)
  | some sign =>
    if tracked x.recipe sign ∧ 16 * x.recipe.streakOn ≤ s.natAbs then
      e.confirm x
        { s := s, state := .candidate, sign := sign, start := x.position, last := x.position, length := 1, peak := s,
          sinceReport := 0, waiting := false }
    else e.setBin x.index (Bin.quiet s)

/-- R115: a bin in CANDIDATE with the new accumulator s. -/
def Engine.candidateBin (e : Engine) (x : BinContext) (b : Bin) (s : Int) : Engine :=
  if holds x.recipe b s then e.confirm x (b.hold s x.position) else e.quietBin x s

/-- R117: one more line since report; what becomes of it past 65535 is free (log 11). -/
def nextSinceReport (n : Nat) : Nat := if n < Config.max16 then n + 1 else Config.sinceReportPastLimit.val

/-- R117, R118: a bin in STREAK with the new accumulator s. -/
def Engine.streakBin (e : Engine) (x : BinContext) (b : Bin) (s : Int) : Engine :=
  if holds x.recipe b s then
    let held := b.hold s x.position
    let since := nextSinceReport b.sinceReport
    if 0 < x.recipe.reportLines ∧ x.recipe.reportLines ≤ since then
      (e.setBin x.index { held with sinceReport := 0 }).addRecords x.side
        [e.streakContinueRecord x.side x.bank x.recipe x.index x.lane held]
    else e.setBin x.index { held with sinceReport := since }
  else
    let e : Engine := e.addRecords x.side [e.streakCloseRecord x.side x.bank .ended x.index (some x.lane) b]
    let e : Engine := { e with streaks := e.streaks.filter fun entry => entry.bin ≠ x.index }
    e.quietBin x s

/-- R120: the transition of a bin's state. -/
def Engine.transition (e : Engine) (x : BinContext) (s : Int) : Engine :=
  let b := e.bin x.index
  match b.state with
  | .quiet => e.quietBin x s
  | .candidate => e.candidateBin x b s
  | .streak => e.streakBin x b s

/-- R110, R111, R120: one evaluated bin in stage 6: frozen when a column of it or its lane is blind; otherwise its
accumulator is updated and its state makes its transition. -/
def stepBin (side : Side) (position : Position) (bank : LaneBank) (recipes : Recipes) (cols : List (Nat × Nat))
    (e : Engine) (jl : Nat × LaneId) : Engine :=
  let values := binValues cols e.binWidth jl.1
  match e.laneLevels[jl.2] with
  | .mean m =>
    if values.length = e.binWidth then
      let recipe := laneRecipe bank recipes jl.2
      let average := values.sum / e.binWidth
      e.transition
        { side := side, position := position, bank := bank, recipe := recipe, lane := jl.2, index := jl.1 }
        (accumulate recipe.shift (e.bin jl.1).s ((average : Int) - (m : Int)))
    else e
  | _ => e

/-- R109: a bin that is not evaluated is held QUIET with s = 0. -/
def Engine.quietUnevaluated (e : Engine) (bank : LaneBank) : Engine :=
  { e with bins := e.bins.filter fun jb => (binLane bank e.binWidth jb.1).isSome }

/-- Stage 6 (R72, R109 to R120). -/
def Engine.stageStreaks (e : Engine) (side : Side) (position : Position) (bank : LaneBank) (recipes : Recipes)
    (cols : List (Nat × Nat)) : Engine :=
  (evaluatedBins bank e.binWidth).foldl (stepBin side position bank recipes cols) (e.quietUnevaluated bank)

/-- R125: at START the accumulator of every bin is set to 0. -/
def Engine.clearAccumulators (e : Engine) : Engine :=
  { e with
    bins := (e.bins.map fun jb => (jb.1, { jb.2 with s := 0 })).filter fun jb => decide (jb.2 ≠ Bin.quiet 0) }

/-- R125, R167 step 3: every candidate is discarded without a record. -/
def Engine.discardCandidates (e : Engine) : Engine :=
  { e with
    bins :=
      (e.bins.map fun jb => (jb.1, if jb.2.state = .candidate then Bin.quiet jb.2.s else jb.2)).filter fun jb =>
        decide (jb.2 ≠ Bin.quiet 0) }

/-- R64, R124, R167 step 6: every bin is QUIET with s = 0 and waiting no. -/
def Engine.quietBins (e : Engine) : Engine := { e with bins := [] }

end Sys2Proof.Machine
end

