-- ==== Sys2Proof/Machine/LaneMap.lean ====
section
/-! DEFINITION. Lane maps, recipes and changeover (chapter 4): SET_RECIPE, SET_LANE, bank validity, the pending switch,
changeovers and splice arrivals. -/

namespace Sys2Proof.Machine

/-! ### Recipes and lane records -/

/-- R54: every field of a recipe is in its range. -/
def Recipe.inRange (r : Recipe) : Bool :=
  decide (1 ≤ r.pinThreshold) && decide (r.pinThreshold ≤ 255) && decide (1 ≤ r.minArea) && decide (r.minArea ≤ 255)
    && decide (r.gapLines ≤ 3) && decide (1 ≤ r.maxBlobLines) && decide (r.maxBlobLines ≤ 4095)
    && decide (1 ≤ r.streakOn) && decide (r.streakOn ≤ 63) && decide (r.streakOff ≤ r.streakOn) && decide (r.shift ≤ 7)
    && decide (1 ≤ r.minStreakLines) && decide (r.minStreakLines ≤ 4095) && decide (r.reportLines ≤ 65535)

/-- SET_RECIPE (R54). -/
def execSetRecipe (p : Port) (body : List Byte) (s : State) : Host.Outcome State Fault Refusal :=
  .next
    (takeCommand p body readSetRecipe
      (fun b s =>
        match readIndex 8 b.index with
        | none => s.refuse p .range
        | some i =>
          if b.recipe.inRange then (s.modLanes fun l => { l with recipes := l.recipes.set i b.recipe }).answerOk p
          else s.refuse p .range)
      s)

/-- R56: a lane record is in range and consistent. -/
def LaneRecord.consistent (r : LaneRecord) : Bool :=
  decide (r.spanFirst ≤ r.coatedFirst) && decide (r.coatedFirst ≤ r.coatedLast) && decide (r.coatedLast ≤ r.spanLast)
    && decide (r.spanLast ≤ 16383)

/-- R56: the lane record of a SET_LANE body, if every encoding is valid. -/
def SetLaneBody.record (b : SetLaneBody) : Option LaneRecord := do
  let enabled ← readBool b.enabled
  let recipe ← readIndex 8 b.recipe
  let marker ← readMarkerOrNone b.marker
  some
    { enabled := enabled, spanFirst := b.spanFirst, spanLast := b.spanLast, coatedFirst := b.coatedFirst,
      coatedLast := b.coatedLast, recipe := recipe, marker := marker }

/-- R58: a bank is valid when no two of its enabled lanes share a span column. -/
def bankValid (bank : LaneBank) : Bool :=
  (enabledLanes bank).all fun i =>
    (enabledLanes bank).all fun j =>
      decide (i = j) || !rangesMeet bank[i].spanFirst bank[i].spanLast bank[j].spanFirst bank[j].spanLast

/-- The pending switch, if the side has not switched under it. -/
def State.unswitched (s : State) (side : Side) : Option SwitchRecord :=
  match s.lanes.switch with
  | some w => if w.switched.get side then none else some w
  | none => none

/-- R57 step 4: a switch is pending whose target bank for the side is this bank, and the side has not yet switched. -/
def State.awaits (s : State) (side : Side) (bank : Bank) : Bool :=
  match s.unswitched side with
  | some w => decide (w.target.get side = bank)
  | none => false

/-- R57: SET_LANE, once the bank, the side and the lane index are valid values. -/
def State.setLane (s : State) (p : Port) (bank : Bank) (side : Side) (lane : LaneId) (b : SetLaneBody) : State :=
  if s.lanes.active.get side = bank ∧ s.runState ≠ .standby then s.refuse p .state
  else
    match b.record with
    | none => s.refuse p .range
    | some r =>
      if !r.consistent then s.refuse p .range
      else
        let written := ((s.lanes.banks.get side).get bank).set lane r
        if s.awaits side bank && !bankValid written then s.refuse p .invalidMap
        else
          (s.modLanes fun l =>
            { l with banks := l.banks.set side ((l.banks.get side).set bank written) }).answerOk p

/-- SET_LANE (R57). -/
def execSetLane (p : Port) (body : List Byte) (s : State) : Host.Outcome State Fault Refusal :=
  .next
    (takeCommand p body readSetLane
      (fun b s =>
        match readBank b.bank, readSide b.side, readIndex 16 b.lane with
        | some bank, some side, some lane => s.setLane p bank side lane b
        | _, _, _ => s.refuse p .range)
      s)

/-! ### Changeover -/

/-- The MAP_CHANGE flag of R102. -/
def PinholeFlags.mapChanged : PinholeFlags := { PinholeFlags.gap with mapChange := true }

/-- R64 steps 1 and 2: the records of the blobs and streaks that a changeover closes, under the former bank and the
snapshot of the side's previous line. -/
def State.changeoverClosures (s : State) (side : Side) : List Made :=
  let e := s.eng.get side
  closeBlobs side (s.activeBank side) e.recipes PinholeFlags.mapChanged e.blobs
    ++ e.closeStreaks side (s.activeBank side) .mapChange

/-- R64 steps 1 to 4: the blobs, streaks and bins go, the target bank becomes active and the side has switched. -/
def State.switchSide (s : State) (side : Side) (w : SwitchRecord) : State :=
  let s := s.modEng side fun e => { e.quietBins with blobs := [], streaks := [] }
  s.modLanes fun l =>
    { l with
      active := l.active.set side (w.target.get side)
      switch := some { w with switched := w.switched.set side true } }

/-- R64 step 5: the BANK_SWITCHED record. -/
def bankSwitchedRecord (side : Side) (position : Position) (w : SwitchRecord) : Made :=
  ({ side := some side, lane := none, position := position, content := .bankSwitched (w.target.get side) w.mode }, none)

/-- R64, R70: a changeover at a take; its records join the record list. -/
def State.changeOverAtTake (s : State) (side : Side) (position : Position) (w : SwitchRecord) : State :=
  let made := s.changeoverClosures side ++ [bankSwitchedRecord side position w]
  (s.switchSide side w).modEng side (·.addRecords side made)

/-- R64, R70: a changeover at once; the lane map unit offers the BANK_SWITCHED record. There is then no blob and no streak
to close. -/
def State.changeOverAtOnce (s : State) (side : Side) (w : SwitchRecord) : State :=
  let made := s.changeoverClosures side
  ((s.switchSide side w).offerAll (.engine side) made).offerAll .laneMap [bankSwitchedRecord side s.pos.web w]

/-- R60, R65: an unswitched side changes over at once when `now` holds of it. -/
def State.changeOverIf (s : State) (side : Side) (now : Bool) : State :=
  match s.unswitched side with
  | some w => if now then s.changeOverAtOnce side w else s
  | none => s

/-- R60, R63: a request that both sides have completed is removed. -/
def State.completeSwitch (s : State) : State :=
  match s.lanes.switch with
  | some w => if w.switched.top && w.switched.bottom then s.modLanes fun l => { l with switch := none } else s
  | none => s

/-- R65, R164 step 3: every side without an enabled head that has not switched changes over. -/
def State.changeOverHeadless (s : State) : State :=
  ((s.changeOverIf .top !(s.hasHead .top)).changeOverIf .bottom !(s.hasHead .bottom)).completeSwitch

/-- R60: the switch record of a request. -/
def State.newSwitch (s : State) (mode : SwitchMode) (position : Position) : SwitchRecord where
  mode := mode
  position := if mode = .atPosition then some position else none
  attached := none
  target := { top := otherBank s.lanes.active.top, bottom := otherBank s.lanes.active.bottom }
  switched := { top := false, bottom := false }

/-- R60: the inactive banks of both sides are valid. -/
def State.targetsValid (s : State) : Bool :=
  bankValid (s.lanes.banks.top.get (otherBank s.lanes.active.top))
    && bankValid (s.lanes.banks.bottom.get (otherBank s.lanes.active.bottom))

/-- R60: the request is made, and the sides that change over at once do so, TOP before BOTTOM. -/
def State.requestSwitch (s : State) (w : SwitchRecord) : State :=
  let s := s.modLanes fun l => { l with switch := some w }
  if s.runState = .standby ∧ w.mode = .now then ((s.changeOverIf .top true).changeOverIf .bottom true).completeSwitch
  else s.changeOverHeadless

/-- SWITCH_BANK (R60). -/
def execSwitchBank (p : Port) (body : List Byte) (s : State) : Host.Outcome State Fault Refusal :=
  .next
    (takeCommand p body readSwitchBank
      (fun b s =>
        match readSwitchMode b.mode with
        | none => s.refuse p .range
        | some mode =>
          if s.lanes.switch.isSome then s.refuse p .pending
          else if !s.targetsValid then s.refuse p .invalidMap
          else (s.requestSwitch (s.newSwitch mode b.position)).answerOk p)
      s)

/-- R61: the switch-attached field of every entry is set to no. -/
def detachAll (entries : List ArrivalEntry) : List ArrivalEntry := entries.map fun x => { x with attached := false }

/-- CANCEL_SWITCH (R61). -/
def execCancelSwitch (p : Port) (body : List Byte) (s : State) : Host.Outcome State Fault Refusal :=
  .next
    (takeCommand p body readNothing
      (fun _ s =>
        if s.lanes.switch.isSome then
          (s.modLanes fun l =>
            { l with
              switch := none
              arrivals := { top := detachAll l.arrivals.top, bottom := detachAll l.arrivals.bottom } }).answerOk p
        else s.refuse p .state)
      s)

/-! ### Splices -/

/-- R66: a side's arrival list has room. -/
def State.arrivalRoom (s : State) (side : Side) : Bool :=
  decide ((s.lanes.arrivals.get side).length < Config.maxArrivals)

/-- R66: a splice is offered to a side's arrival list. -/
def State.offerArrival (s : State) (side : Side) (x : ArrivalEntry) : State :=
  if s.arrivalRoom side then
    s.modLanes fun l => { l with arrivals := l.arrivals.set side (l.arrivals.get side ++ [x]) }
  else
    s.offer .laneMap
      { side := some side, lane := none, position := x.arrival, content := .overflowSplices x.capture }

/-- R62: the pending switch waits for a splice to be attached. -/
def State.wantsSplice (s : State) : Option SwitchRecord :=
  match s.lanes.switch with
  | some w => if w.mode = .atSplice ∧ w.attached.isNone then some w else none
  | none => none

/-- R62, R66: a splice handed on by the position unit is attached to a switch that waits for one, and offered to the
arrival lists of TOP and BOTTOM. -/
def State.handOnSplice (s : State) (capture arrival : Position) : State :=
  match s.wantsSplice with
  | some w =>
    let entered : PerSide Bool := { top := s.arrivalRoom .top, bottom := s.arrivalRoom .bottom }
    let s := s.modLanes fun l => { l with switch := some { w with attached := some entered, position := some arrival } }
    let x : ArrivalEntry := { arrival := arrival, capture := capture, attached := true }
    (s.offerArrival .top x).offerArrival .bottom x
  | none =>
    let x : ArrivalEntry := { arrival := arrival, capture := capture, attached := false }
    (s.offerArrival .top x).offerArrival .bottom x

/-! ### The changeover stage -/

/-- R67 step 3, R86: a running teach is ended by a splice arrival. -/
def State.abortTeachAtSplice (s : State) (side : Side) (position : Position) : State :=
  match (s.eng.get side).teach with
  | none => s
  | some t =>
    s.modEng side fun e => { e with teach := none }.addRecords side [teachAbortedRecord side .splice position t]

/-- R67: one reached arrival entry is removed and served; `rest` is the list without it. -/
def State.serveArrival (s : State) (side : Side) (position : Position) (x : ArrivalEntry) (rest : List ArrivalEntry) :
    State :=
  let s := s.modLanes fun l => { l with arrivals := l.arrivals.set side rest }
  let switch := if x.attached then s.unswitched side else none
  let s := s.modEng side
    (·.addRecords side
      [({ side := some side, lane := none, position := x.arrival,
          content := .spliceArrived x.capture position switch.isSome }, none)])
  let s :=
    match switch with
    | some w => s.changeOverAtTake side position w
    | none => s
  s.abortTeachAtSplice side position

/-- R67: the list is served from the front up to the first entry not reached. -/
def State.serveArrivals (side : Side) (position : Position) : List ArrivalEntry → State → State
  | [], s => s
  | x :: rest, s =>
    if atOrAhead position x.arrival then State.serveArrivals side position rest (s.serveArrival side position x rest)
    else s

/-- R63 step 2: the condition of a request is met for a side at a line position. -/
def SwitchRecord.reached (w : SwitchRecord) (side : Side) (position : Position) : Bool :=
  match w.mode with
  | .now => true
  | .atPosition => w.position.any (atOrAhead position)
  | .atSplice =>
    match w.attached with
    | some entered => !entered.get side && w.position.any (atOrAhead position)
    | none => false

/-- Stage 1 (R63): the changeover stage of a take. -/
def State.stageChangeover (s : State) (side : Side) (position : Position) : State :=
  let s := s.serveArrivals side position (s.lanes.arrivals.get side)
  let s :=
    match s.unswitched side with
    | some w => if w.reached side position then s.changeOverAtTake side position w else s
    | none => s
  s.completeSwitch

end Sys2Proof.Machine
end

