-- ==== Sys2Proof/Machine/Engine.lean ====
section
/-! DEFINITION. The side engines (chapter 5, R108): the line take and its stages, the end of a line operation, the commands an
engine takes or holds, and SET_SIDE. -/

namespace Sys2Proof.Machine

/-! ### The line operation -/

/-- Stages 3 to 6 (R72) of a line with its raw columns. -/
def Engine.inspect (e : Engine) (side : Side) (position : Position) (bank : LaneBank) (recipes : Recipes)
    (cols : List (Nat × Byte)) : Engine :=
  let corrected := e.correct cols
  ((e.stageLevels bank corrected).stagePinholes side position bank recipes corrected).stageStreaks side position bank
    recipes corrected

/-- R73: the dropped lines of a preceding drop, each a line blind in every column; stage 7 adds nothing for them. -/
def Engine.dropPasses (side : Side) (position : Position) (bank : LaneBank) (recipes : Recipes) : Nat → Engine → Engine
  | 0, e => e
  | n + 1, e => Engine.dropPasses side position bank recipes n (e.inspect side position bank recipes [])

/-- R72, R73: stages 3 to 7 of the dropped lines of a preceding drop and then of the line in flight. -/
def Engine.runLine (e : Engine) (side : Side) (bank : LaneBank) (recipes : Recipes) (line : LineEntry) : Engine :=
  ((e.dropPasses side line.position bank recipes (line.precedingDrop.getD 0)).inspect side line.position bank recipes
      line.cols).stageTeach side line.position line.cols

/-- R71: the take: the oldest queue entry becomes the line in flight, and the record list is empty. -/
def State.beginLine (s : State) (side : Side) (line : LineEntry) (rest : List LineEntry) : State :=
  (s.modAsm side fun a => { a with queue := rest }).modEng side fun e =>
    { e with inFlight := some line, recordList := [] }

/-- R72: the stages of the line operation. -/
def State.runOperation (s : State) (side : Side) (line : LineEntry) : State :=
  let s := s.stageChangeover side line.position
  let s := s.modEng side fun e => { e with snapshot := some s.lanes.recipes }
  s.modEng side (·.runLine side (s.activeBank side) s.lanes.recipes line)

/-- LINE_TAKE (R71 to R73): an engine with no line in flight and no held command takes the oldest entry of its queue. -/
def execLineTake (side : Side) (s : State) : Host.Outcome State Fault Refusal :=
  .next
    (match (s.eng.get side).inFlight, (s.eng.get side).held, (s.asm.get side).queue with
    | none, [], line :: rest => (s.beginLine side line rest).runOperation side line
    | _, _, _ => s)

/-! ### Commands an engine takes -/

/-- R78: write the entries of a SET_CAL from a column on; a gain above 8191 is written as 8191. -/
def Engine.writeCal (column : Nat) : List (Nat × Nat) → Engine → Engine
  | [], e => e
  | (d, g) :: rest, e =>
    Engine.writeCal (column + 1) rest (e.setCalEntry column { dark := d, gain := min Config.maxGain g })

/-- R78: SET_CAL at the engine. -/
def State.takeSetCal (s : State) (p : Port) (side : Side) (b : SetCalBody) : State :=
  if b.entries.length = 0 ∨ 256 < b.entries.length ∨ 16383 < b.firstColumn + b.entries.length - 1 then s.refuse p .range
  else if (s.eng.get side).teach.isSome then s.refuse p .busy
  else (s.modEng side (Engine.writeCal b.firstColumn b.entries)).answerOk p

/-- R81: TEACH at the engine. -/
def State.takeTeach (s : State) (p : Port) (side : Side) (b : TeachBody) : State :=
  if !([16, 32, 64, 128, 256].contains b.n) || decide (b.target < 1) || decide (255 < b.target) then s.refuse p .range
  else if s.runState ≠ .inspecting then s.refuse p .state
  else if (s.eng.get side).teach.isSome then s.refuse p .busy
  else
    (s.modEng side fun e =>
      { e with teach := some { n := b.n, target := b.target, taken := 0, columns := [] } }).answerOk p

/-- R85: TEACH_ABORT at the engine; the TEACH_ABORTED record is offered at once. -/
def State.takeTeachAbort (s : State) (p : Port) (side : Side) : State :=
  match (s.eng.get side).teach with
  | none => s.refuse p .state
  | some t =>
    ((s.modEng side fun e => { e with teach := none }).offerAll (.engine side)
      [teachAbortedRecord side .abort s.pos.web t]).answerOk p

/-- R75: an engine takes a command, which a body that is read names. -/
def State.takeEngineCommand (s : State) (p : Port) (side : Side) (c : EngineCommand) (body : List Byte) : State :=
  match c with
  | .setCal =>
    match readSetCal body with
    | some b => s.takeSetCal p side b
    | none => s.refuse p .length
  | .teach =>
    match readTeach body with
    | some b => s.takeTeach p side b
    | none => s.refuse p .length
  | .teachAbort => s.takeTeachAbort p side

/-- R75: a command reaches an engine: taken at once with no line in flight, and held otherwise. -/
def State.reachEngine (s : State) (p : Port) (side : Side) (c : EngineCommand) (body : List Byte) : State :=
  if (s.eng.get side).inFlight.isSome then
    s.modEng side fun e => { e with held := e.held ++ [{ port := p, command := c, body := body }] }
  else s.takeEngineCommand p side c body

/-- SET_CAL (R75, R78; R156 check 5). -/
def execSetCal (p : Port) (body : List Byte) (s : State) : Host.Outcome State Fault Refusal :=
  .next
    (takeCommand p body readSetCal
      (fun b s =>
        match readSide b.side with
        | none => s.refuse p .range
        | some side => s.reachEngine p side .setCal body)
      s)

/-- TEACH (R75, R81; R156 check 5). -/
def execTeach (p : Port) (body : List Byte) (s : State) : Host.Outcome State Fault Refusal :=
  .next
    (takeCommand p body readTeach
      (fun b s =>
        match readSide b.side with
        | none => s.refuse p .range
        | some side => s.reachEngine p side .teach body)
      s)

/-- TEACH_ABORT (R75, R85; R156 check 5). -/
def execTeachAbort (p : Port) (body : List Byte) (s : State) : Host.Outcome State Fault Refusal :=
  .next
    (takeCommand p body readOneByte
      (fun b s =>
        match readSide b with
        | none => s.refuse p .range
        | some side => s.reachEngine p side .teachAbort body)
      s)

/-- R74: the held commands are taken in order of arrival; each ends the BUSY of its port (R154). -/
def State.takeHeld (side : Side) (s : State) (c : HeldCommand) : State :=
  (s.noteTransfer c.port).takeEngineCommand c.port side c.command c.body

/-- R74: the line in flight is released, and the held commands are taken. -/
def State.releaseLine (s : State) (side : Side) : State :=
  let held := (s.eng.get side).held
  held.foldl (State.takeHeld side)
    (s.modEng side fun e => { e with inFlight := none, held := [], laneLevels := Vector.replicate 16 .none })

/-- LINE_OPERATION_END (R74): the last record of the list has been taken by the arbiter. -/
def execLineOperationEnd (side : Side) (s : State) : Host.Outcome State Fault Refusal :=
  .next
    (if (s.eng.get side).inFlight.isSome ∧ (s.eng.get side).recordList = [] then s.releaseLine side else s)

/-! ### SET_SIDE -/

/-- R108: SET_SIDE at the engine: the width, and a new bin array. -/
def State.setSide (s : State) (p : Port) (side : Side) (width : Nat) : State :=
  if s.runState ≠ .standby then s.refuse p .state
  else if width = 4 ∨ width = 8 ∨ width = 16 then
    (s.modEng side fun e => { e.quietBins with binWidth := width }).answerOk p
  else s.refuse p .range

/-- SET_SIDE (R108; R156 check 5). -/
def execSetSide (p : Port) (body : List Byte) (s : State) : Host.Outcome State Fault Refusal :=
  .next
    (takeCommand p body readSetSide
      (fun b s =>
        match readSide b.side with
        | none => s.refuse p .range
        | some side => s.setSide p side b.width)
      s)

end Sys2Proof.Machine
end

