-- ==== Sys2Proof/Machine/HeadLinks.lean ====
section
/-! DEFINITION. Head links (chapter 2 and 12.1): link events, the header check, the field test, classification, the
contribution of a packet, SET_HEAD and GET_HEAD. -/

namespace Sys2Proof.Machine

/-! ### Link events -/

/-- LINK_UP (R19, R31). -/
def execLinkUp (h : HeadId) (s : State) : Host.Outcome State Fault Refusal :=
  .next
    (if (s.head h).linkUp then s
    else
      let s := s.modHead h fun r => { r with linkUp := true }
      if (s.head h).state = .absent then (s.setMisses h 0).setHeadState h .live .linkUp else s)

/-- LINK_DOWN (R19, R31). -/
def execLinkDown (h : HeadId) (s : State) : Host.Outcome State Fault Refusal :=
  .next
    (if (s.head h).linkUp then
      let s := s.modHead h fun r => { r with linkUp := false }
      if (s.head h).state = .live ∨ (s.head h).state = .mute then s.setHeadState h .absent .linkDown else s
    else s)

/-! ### The header check (R21, R170) -/

/-- The bits of a byte, bit 7 first. -/
def bitsOf (b : Byte) : List Bool :=
  [b.getLsbD 7, b.getLsbD 6, b.getLsbD 5, b.getLsbD 4, b.getLsbD 3, b.getLsbD 2, b.getLsbD 1, b.getLsbD 0]

/-- The number that bits spell, the most significant first. -/
def bitsToNat (bits : List Bool) : Nat := bits.foldl (fun n b => 2 * n + b.toNat) 0

/-- R170: the code positions of h1 to h40: 3, 5, 6, 7, 9 to 15, 17 to 31 and 33 to 46. -/
def headerPositions : List Nat :=
  [3, 5, 6, 7, 9, 10, 11, 12, 13, 14, 15, 17, 18, 19, 20, 21, 22, 23, 24, 25, 26, 27, 28, 29, 30, 31, 33, 34, 35, 36, 37,
    38, 39, 40, 41, 42, 43, 44, 45, 46]

/-- True when an odd number of the bits are set. -/
def oddParity (bits : List Bool) : Bool := bits.foldl xor false

/-- R170: the 46 bits of the code positions: the header bits at theirs, and check bit ck, bit k of the check byte, at
position 2^k. -/
def codedBits (header : List Bool) (check : Byte) : List (Nat × Bool) :=
  headerPositions.zip header
    ++ [(1, check.getLsbD 0), (2, check.getLsbD 1), (4, check.getLsbD 2), (8, check.getLsbD 3), (16, check.getLsbD 4),
      (32, check.getLsbD 5)]

/-- R170: syndrome bit k is the parity of the received bits at the positions with bit k set. -/
def syndromeBit (coded : List (Nat × Bool)) (k : Nat) : Bool :=
  oddParity ((coded.filter fun pb => pb.1.testBit k).map (·.2))

/-- R170: the six syndrome bits read as a number. -/
def syndrome (coded : List (Nat × Bool)) : Nat :=
  bitAt (syndromeBit coded 0) 0 + bitAt (syndromeBit coded 1) 1 + bitAt (syndromeBit coded 2) 2
    + bitAt (syndromeBit coded 3) 3 + bitAt (syndromeBit coded 4) 4 + bitAt (syndromeBit coded 5) 5

/-- R170: the overall parity of the 47 coded bits, the parity bit P, bit 6 of the check byte, included, is wrong. -/
def parityWrong (coded : List (Nat × Bool)) (check : Byte) : Bool := oddParity (check.getLsbD 6 :: coded.map (·.2))

/-- R21: the outcome of the header check, with the 40 header bits to use. -/
inductive HeaderCheck where
  | clean (header : List Bool)
  | corrected (header : List Bool)
  | uncorrectable
  deriving DecidableEq, Repr

/-- R170: the header bits with the bit at a code position inverted; a position that holds a check bit leaves them. -/
def invertAt (position : Nat) (header : List Bool) : List Bool :=
  (headerPositions.zip header).map fun pb => if pb.1 = position then !pb.2 else pb.2

/-- R21, R170: the header check. -/
def checkHeader (header : List Bool) (check : Byte) : HeaderCheck :=
  let coded := codedBits header check
  let syn := syndrome coded
  let wrong := parityWrong coded check
  if syn = 0 then (if wrong then .corrected header else .clean header)
  else if wrong ∧ syn ≤ 46 then .corrected (invertAt syn header)
  else .uncorrectable

/-- 2.2, R169: the fields of a header. -/
structure PacketHeader where
  kind : Nat
  headId : Nat
  line : LineNo
  pixelCount : Nat
  deriving DecidableEq, Repr

/-- R169: the fields from the 40 header bits. -/
def readHeader (header : List Bool) : PacketHeader where
  kind := bitsToNat (header.take 4)
  headId := bitsToNat ((header.drop 4).take 4)
  line := BitVec.ofNat 16 (bitsToNat ((header.drop 8).take 16))
  pixelCount := bitsToNat ((header.drop 24).take 16)

/-- R22: a bad header: not LINE, not this head's, or a pixel count of 0 or more than 4096. -/
def badFields (h : HeadId) (hd : PacketHeader) : Bool :=
  decide (hd.kind ≠ 1) || decide (hd.headId ≠ h.val) || decide (hd.pixelCount = 0) || decide (4096 < hd.pixelCount)

/-! ### The payload (R25, R27, R170) -/

/-- R170: one bit of the CRC, generator x^16 + x^12 + x^5 + 1. -/
def crcShift (r : BitVec 16) : BitVec 16 := if r.getLsbD 15 then (r <<< 1) ^^^ 0x1021 else r <<< 1

/-- R170: one byte of the CRC, most significant bit first. -/
def crcByte (r : BitVec 16) (b : Byte) : BitVec 16 :=
  crcShift (crcShift (crcShift (crcShift (crcShift (crcShift (crcShift (crcShift (r ^^^ (b.zeroExtend 16 <<< 8)))))))))

/-- R170: the CRC over the payload, the register starting at 0xFFFF, the result not inverted. -/
def crc16 (payload : List Byte) : BitVec 16 := payload.foldl crcByte 0xFFFF

/-- R169: the payload of a complete packet is followed by the CRC, high byte first; the CRC passes when the two agree. -/
def crcPasses (data : List Byte) : Bool :=
  match data.drop (data.length - 2) with
  | [hi, lo] => (crc16 (data.take (data.length - 2))).toNat == be16 hi lo
  | _ => false

/-- R27: the raw values of the window pixels that the payload carries, in the order of the pixels. -/
def windowPixels (g : Geometry) (pixelCount : Nat) (payload : List Byte) : List Byte :=
  ((payload.take pixelCount).drop g.windowStart).take g.windowWidth

/-- R27: window pixel i falls on column origin + i or origin - i; the columns in ascending order. -/
def pixelColumns (g : Geometry) (pixels : List Byte) : List (Nat × Byte) :=
  match g.direction with
  | .ascending => pixels.zipIdx.map fun vi => (g.columnOrigin + vi.2, vi.1)
  | .descending => (pixels.zipIdx.map fun vi => (g.columnOrigin - vi.2, vi.1)).reverse

/-- R25, R27: the contribution of a complete packet; `data` is what follows the check byte. -/
def completeContribution (g : Geometry) (pixelCount : Nat) (data : List Byte) : Contribution :=
  if crcPasses data then
    { mark := if pixelCount < g.windowStart + g.windowWidth then .short else .full
      cols := pixelColumns g (windowPixels g pixelCount (data.take (data.length - 2))) }
  else { mark := .crc, cols := [] }

/-- R26: the contribution of an aborted packet. -/
def abortContribution : Contribution := { mark := .crc, cols := [] }

/-! ### Classification (R23, R24) -/

/-- R24: the classes of a valid packet. -/
inductive PacketClass where
  | accepted
  | duplicate
  | late
  | future
  deriving DecidableEq, Repr

/-- R24: a valid packet is matched by its line number. -/
def State.classify (s : State) (h : HeadId) (line : LineNo) : PacketClass :=
  match s.slotOf (s.head h).geometry.side line with
  | some slot => if slot.contributions[h].isSome then .duplicate else .accepted
  | none => if ahead line s.pos.lineNumber then .future else .late

/-- R35: change a head's counters. -/
def State.count (s : State) (h : HeadId) (f : HeadCounters → HeadCounters) : State :=
  s.modHead h fun r => { r with counters := f r.counters }

/-- R24 to R26, R32, R39: an accepted packet counts, returns a MUTE head to LIVE, and its contribution reaches the slot. -/
def State.accept (s : State) (h : HeadId) (line : LineNo) (c : Contribution) : State :=
  let s := s.count h fun k => { k with accepted := k.accepted + 1 }
  let s := if c.mark = .crc then s.count h fun k => { k with crc := k.crc + 1 } else s
  let s := if (s.head h).state = .mute then (s.setMisses h 0).setHeadState h .live .packet else s
  s.addContribution (s.head h).geometry.side line h c

/-- R22, R24: the field test and the classification, of a header that is clean or corrected. `contribution` gives what an
accepted packet of a pixel count contributes. -/
def State.takeHeader (s : State) (h : HeadId) (hd : PacketHeader) (contribution : Nat → Contribution) : State :=
  if badFields h hd then s.count h fun k => { k with badHeader := k.badHeader + 1 }
  else
    match s.classify h hd.line with
    | .accepted => s.accept h hd.line (contribution hd.pixelCount)
    | .duplicate => s.count h fun k => { k with late := k.late + 1 }
    | .late => s.count h fun k => { k with late := k.late + 1 }
    | .future => s.count h fun k => { k with future := k.future + 1 }

/-- R23: whether a receiver examines packets. -/
def State.examines (s : State) (h : HeadId) : Bool :=
  (decide (s.runState = .inspecting) || decide (s.runState = .stopping))
    && (decide ((s.head h).state = .live) || decide ((s.head h).state = .mute))

/-- R20 to R24: a packet whose bytes have arrived; one that ends before its check byte is discarded. `contribution` gives
what an accepted packet contributes, from its pixel count and the bytes after the check byte. -/
def State.takePacket (s : State) (h : HeadId) (bytes : List Byte) (contribution : Nat → List Byte → Contribution) :
    State :=
  if s.examines h then
    match bytes with
    | b0 :: b1 :: b2 :: b3 :: b4 :: check :: data =>
      match checkHeader (bitsOf b0 ++ bitsOf b1 ++ bitsOf b2 ++ bitsOf b3 ++ bitsOf b4) check with
      | .clean header => s.takeHeader h (readHeader header) fun n => contribution n data
      | .corrected header =>
        (s.count h fun k => { k with corrected := k.corrected + 1 }).takeHeader h (readHeader header) fun n =>
          contribution n data
      | .uncorrectable => s.count h fun k => { k with uncorrectable := k.uncorrectable + 1 }
    | _ => s
  else s

/-- COMPLETE_PACKET (R20 to R25, R27). -/
def execCompletePacket (h : HeadId) (bytes : List Byte) (s : State) : Host.Outcome State Fault Refusal :=
  .next (s.takePacket h bytes fun n data => completeContribution (s.head h).geometry n data)

/-- ABORTED_PACKET (R20 to R24, R26). -/
def execAbortedPacket (h : HeadId) (bytes : List Byte) (s : State) : Host.Outcome State Fault Refusal :=
  .next (s.takePacket h bytes fun _ _ => abortContribution)

/-! ### SET_HEAD and GET_HEAD -/

/-- R28: a geometry record is in range and consistent. -/
def Geometry.consistent (g : Geometry) : Bool :=
  decide (g.windowStart ≤ 4095) && decide (1 ≤ g.windowWidth) && decide (g.windowWidth ≤ 4096)
    && decide (g.columnOrigin ≤ 16383) && decide (g.windowStart + g.windowWidth ≤ 4096)
    && (match g.direction with
      | .ascending => decide (g.columnOrigin + g.windowWidth - 1 ≤ 16383)
      | .descending => decide (g.windowWidth - 1 ≤ g.columnOrigin))

/-- R28: the geometry record of a SET_HEAD body, if every encoding is valid. -/
def SetHeadBody.geometry (b : SetHeadBody) : Option Geometry := do
  let enabled ← readBool b.enabled
  let side ← readSide b.side
  let direction ← readDirection b.direction
  some
    { enabled := enabled, side := side, windowStart := b.windowStart, windowWidth := b.windowWidth,
      columnOrigin := b.columnOrigin, direction := direction }

/-- R29 step 4: the record's span shares a column with that of another enabled head of the same side. -/
def State.overlaps (s : State) (h : HeadId) (g : Geometry) : Bool :=
  allHeads.any fun other =>
    decide (other ≠ h) && s.headOn g.side other
      && rangesMeet g.spanFirst g.spanLast (s.head other).geometry.spanFirst (s.head other).geometry.spanLast

/-- R30: the change of head state at a SET_HEAD that is taken. -/
def State.applyEnable (s : State) (h : HeadId) (enabled : Bool) : State :=
  if enabled then
    if (s.head h).state = .off then
      if (s.head h).linkUp then (s.setMisses h 0).setHeadState h .live .setHead else s.setHeadState h .absent .setHead
    else s
  else (s.setMisses h 0).setHeadState h .off .setHead

/-- R29: SET_HEAD at the receiver its index names. -/
def State.setHead (s : State) (p : Port) (h : HeadId) (b : SetHeadBody) : State :=
  if s.runState ≠ .standby then s.refuse p .state
  else
    match b.geometry with
    | none => s.refuse p .range
    | some g =>
      if !g.consistent then s.refuse p .range
      else if g.enabled && s.overlaps h g then s.refuse p .overlap
      else ((s.modHead h fun r => { r with geometry := g }).applyEnable h g.enabled).answerOk p

/-- SET_HEAD (R29, R30; R156 check 5). -/
def execSetHead (p : Port) (body : List Byte) (s : State) : Host.Outcome State Fault Refusal :=
  .next
    (takeCommand p body readSetHead
      (fun b s =>
        match readIndex 8 b.index with
        | none => s.refuse p .range
        | some h => s.setHead p h b)
      s)

/-- GET_HEAD (R36; R156 check 5): the response, and HEAD_CHANGE of the issuing port is cleared. -/
def execGetHead (p : Port) (body : List Byte) (s : State) : Host.Outcome State Fault Refusal :=
  .next
    (takeCommand p body readOneByte
      (fun b s =>
        match readIndex 8 b with
        | none => s.refuse p .range
        | some h =>
          (s.modPort p fun c => { c with raised := { c.raised with headChange := false } }).respond p
            (.okWith ((s.head h).bytes h)))
      s)

end Sys2Proof.Machine
end

