-- ==== Sys2Proof/Machine/Marks.lean ====
section
/-! DEFINITION. Mark scheduling (chapter 9): candidates and orders, firing, confirmation, SET_MARKER, MARK and
GET_MARKER. -/

namespace Sys2Proof.Machine

/-! ### The schedule -/

/-- R143: p and q are within w of each other. -/
def within (w : Nat) (p q : Position) : Bool := decide (min (p - q).toNat (q - p).toNat ≤ w)

/-- R143: the distance ahead of a fire position. -/
def distanceAhead (web firePos : Position) : Nat := (firePos - web).toNat

/-- R143: an order stands before another: less distance ahead, or the same and a lower marker index. -/
def standsBefore (web : Position) (x y : Order) : Bool :=
  decide (distanceAhead web x.firePos < distanceAhead web y.firePos)
    || (decide (distanceAhead web x.firePos = distanceAhead web y.firePos) && decide (x.marker < y.marker))

/-- R143, R146: insert a new order at its place, behind the orders that do not stand behind it. -/
def insertOrder (web : Position) (x : Order) : List Order → List Order
  | [] => [x]
  | y :: rest => if standsBefore web x y then x :: y :: rest else y :: insertOrder web x rest

/-- R144, R145: a candidate. -/
structure Candidate where
  marker : MarkerId
  firePos : Position
  source : Option Seq
  firstKind : Option DefectKind
  side : Option Side
  lane : Option LaneId
  deriving DecidableEq, Repr

/-- R133: the mark fields of a candidate's record. -/
def Candidate.fields (c : Candidate) : MarkFields :=
  { marker := c.marker, firePos := c.firePos, source := c.source, firstKind := c.firstKind }

/-- R133: the mark fields of an order's record. -/
def Order.fields (o : Order) : MarkFields :=
  { marker := o.marker, firePos := o.firePos, source := o.source, firstKind := o.firstKind }

/-- R146: the order a candidate joins: the first in the schedule of the same marker within its merge window. -/
def joins (w : Nat) (c : Candidate) (o : Order) : Bool := decide (o.marker = c.marker) && within w o.firePos c.firePos

/-- R146: the merge count of the first order the candidate joins is incremented. -/
def mergeInto (w : Nat) (c : Candidate) : List Order → List Order
  | [] => []
  | o :: rest =>
    if joins w c o then { o with mergeCount := satSucc Config.max16 o.mergeCount } :: rest else o :: mergeInto w c rest

/-- R146, R147: a LATE or LOST record, with MARK_TROUBLE. -/
def State.markTroubleRecord (s : State) (side : Option Side) (lane : Option LaneId) (position : Position)
    (content : Content) : State :=
  s.raiseMarkTrouble.offer .marks { side := side, lane := lane, position := position, content := content }

/-- R146: place a candidate against the web position. -/
def State.place (s : State) (c : Candidate) : State × Placement :=
  let w := (s.marker c.marker).record.mergeWindow
  if !ahead c.firePos s.pos.web then (s.markTroubleRecord c.side c.lane c.firePos (.late c.fields), .late)
  else if s.marks.orders.any (joins w c) then (s.setOrders (mergeInto w c s.marks.orders), .merged)
  else if Config.maxOrders ≤ s.marks.orders.length then
    (s.markTroubleRecord c.side c.lane c.firePos (.lost c.fields), .lost)
  else
    (s.setOrders
      (insertOrder s.pos.web
        { marker := c.marker, firePos := c.firePos, source := c.source, firstKind := c.firstKind, side := c.side,
          lane := c.lane, mergeCount := 0 }
        s.marks.orders),
      .placed)

/-- R104, R122, R144: the marker index and the kind of a record that may yield a candidate. -/
def Content.markable : Content → Option (MarkerId × DefectKind)
  | .pinhole _ _ _ _ _ _ _ marker => marker.map (·, .pinhole)
  | .streakOpen f => f.marker.map (·, .streakOpen)
  | .streakContinue f _ => f.marker.map (·, .streakContinue)
  | _ => none

/-- R131, R144: the scheduler takes an appended record with its governing flag; it may yield a candidate, which is placed. -/
def State.considerRecord (s : State) (r : Record) (flag : Option Bool) : State :=
  match flag, r.draft.content.markable with
  | some true, some (k, kind) =>
    (s.place
      { marker := k, firePos := r.draft.position + BitVec.ofNat 32 (s.marker k).record.distance, source := some r.seq,
        firstKind := some kind, side := r.draft.side, lane := r.draft.lane }).1
  | _, _ => s

/-- R147: at a deep-rewind resync every order is removed with a LOST record. -/
def State.loseOrders (s : State) : State :=
  s.marks.orders.foldl (fun s o => s.markTroubleRecord o.side o.lane o.firePos (.lost o.fields)) (s.setOrders [])

/-! ### Firing -/

/-- R149: the pulse of a NORMAL firing. -/
def Marker.pulse (m : Marker) (now : Nat) : Marker :=
  match m.output with
  | .forced => m
  | _ => { m with output := .pulsing, pulseEnd := some (now + 100 * m.record.pulseWidth) }

/-- R149: the confirm window of a NORMAL firing. -/
def Marker.openWindow (m : Marker) (now : Nat) (o : Order) : Marker :=
  if m.record.confirmTimeout = 0 then { m with window := none }
  else
    { m with
      window :=
        some
          { expiry := now + 1000 * m.record.confirmTimeout, firePos := o.firePos, source := o.source,
            firstKind := o.firstKind, side := o.side, lane := o.lane } }

/-- R133, R149, R150: a record of a firing. -/
def State.firingRecord (s : State) (o : Order) (content : Content) : State :=
  s.offer .marks { side := o.side, lane := o.lane, position := o.firePos, content := content }

/-- R148 to R150: an order that has been removed is consumed by its marker's mode. -/
def State.fire (s : State) (o : Order) : State :=
  let m := s.marker o.marker
  match m.record.mode with
  | .normal =>
    (s.modMarker o.marker fun m => (m.pulse s.now).openWindow s.now o).firingRecord o
      (.fired o.fields o.mergeCount (decide (m.output = .pulsing)) false)
  | .inhibit => s.firingRecord o (.suppressed o.fields o.mergeCount)
  | .force =>
    (s.modMarker o.marker fun m => if m.output = .idle then { m with output := .forced } else m).firingRecord o
      (.fired o.fields o.mergeCount false true)

/-- R148: at a forward count every order whose fire position is the new web position is removed and consumed. -/
def State.fireAt (s : State) (web : Position) : State :=
  (s.marks.orders.filter (·.firePos = web)).foldl State.fire
    (s.setOrders (s.marks.orders.filter (·.firePos ≠ web)))

/-- PULSE_END (R149): the pulse end is reached. -/
def execPulseEnd (k : MarkerId) (s : State) : Host.Outcome State Fault Refusal :=
  .next
    (match (s.marker k).pulseEnd with
    | none => s
    | some t => (s.reachTime t).modMarker k fun m => { m with output := .idle, pulseEnd := none })

/-! ### Confirmation -/

/-- MCF_EDGE (R151). -/
def execMcfEdge (k : MarkerId) (s : State) : Host.Outcome State Fault Refusal :=
  .next (s.modMarker k fun m => { m with prevCapture := m.capture, capture := s.pos.web, window := none })

/-- CONFIRM_WINDOW_EXPIRY (R133, R151): the expiry of an open window is reached. -/
def execConfirmWindowExpiry (k : MarkerId) (s : State) : Host.Outcome State Fault Refusal :=
  .next
    (match (s.marker k).window with
    | none => s
    | some w =>
      ((s.reachTime w.expiry).modMarker k fun m => { m with window := none }).markTroubleRecord w.side w.lane s.pos.web
        (.unconfirmed { marker := k, firePos := w.firePos, source := w.source, firstKind := w.firstKind }))

/-! ### SET_MARKER, MARK and GET_MARKER -/

/-- R140: the marker record of a SET_MARKER body, if every field is in range. -/
def SetMarkerBody.record (b : SetMarkerBody) : Option MarkerRecord :=
  match readMarkerMode b.mode with
  | none => none
  | some mode =>
    if b.distance ≤ Config.maxDistance ∧ 1 ≤ b.pulseWidth ∧ b.pulseWidth ≤ 1000 ∧ b.confirmTimeout ≤ 2000 then
      some
        { distance := b.distance, pulseWidth := b.pulseWidth, mergeWindow := b.mergeWindow,
          confirmTimeout := b.confirmTimeout, mode := mode }
    else none

/-- R142: the change of mode acts on MARKk at once. -/
def Marker.changeMode (m : Marker) (former new : MarkerMode) : Marker :=
  if former = new then m
  else if new = .force then { m with output := .forced, pulseEnd := none }
  else if former = .force then { m with output := .idle, pulseEnd := none }
  else m

/-- R141, R142: the marker record is replaced and the mode change applied. -/
def Marker.setRecord (m : Marker) (r : MarkerRecord) : Marker :=
  { m with record := r }.changeMode m.record.mode r.mode

/-- SET_MARKER (R141, R142). -/
def execSetMarker (p : Port) (body : List Byte) (s : State) : Host.Outcome State Fault Refusal :=
  .next
    (takeCommand p body readSetMarker
      (fun b s =>
        match readIndex 8 b.index, b.record with
        | some k, some r =>
          if r.mergeWindow ≠ (s.marker k).record.mergeWindow ∧ s.marks.orders.any (·.marker = k) then s.refuse p .busy
          else (s.modMarker k (·.setRecord r)).answerOk p
        | _, _ => s.refuse p .range)
      s)

/-- MARK (R145). -/
def execMark (p : Port) (body : List Byte) (s : State) : Host.Outcome State Fault Refusal :=
  .next
    (takeCommand p body readMark
      (fun b s =>
        match readIndex 8 b.marker with
        | none => s.refuse p .range
        | some k =>
          if ahead b.position s.pos.web ∧ Config.maxDistance < distanceAhead s.pos.web b.position then s.refuse p .range
          else
            let placed :=
              s.place
                { marker := k, firePos := b.position, source := none, firstKind := none, side := none, lane := none }
            placed.1.respond p (.okWith (bytePlacement placed.2)))
      s)

/-- GET_MARKER (R152). -/
def execGetMarker (p : Port) (body : List Byte) (s : State) : Host.Outcome State Fault Refusal :=
  .next
    (takeCommand p body readOneByte
      (fun b s =>
        match readIndex 8 b with
        | none => s.refuse p .range
        | some k => s.respond p (.okWith (s.markerBytes k)))
      s)

end Sys2Proof.Machine
end

