-- ==== Sys2Proof/Machine/PortCommands.lean ====
section
/-! DEFINITION. The commands and transfers a client port answers itself (chapter 10): SET_NOTICES, GET_NOTICE, GET_STATUS,
FETCH, unknown commands and bad frames. -/

namespace Sys2Proof.Machine

/-- SET_NOTICES (R160). -/
def execSetNotices (p : Port) (body : List Byte) (s : State) : Host.Outcome State Fault Refusal :=
  .next
    (takeCommand p body readOneByte
      (fun b s => (s.modPort p fun c => { c with enables := readNoticeSet b }).answerOk p)
      s)

/-- R160: what returning a notice clears: PORT_FAULT with its cause and count, RUN_CHANGE and MARK_TROUBLE. -/
def PortState.clearReturned (c : PortState) : Option Notice → PortState
  | some .portFault =>
    { c with raised := { c.raised with portFault := false }, faultCause := none, faultCount := 0 }
  | some .runChange => { c with raised := { c.raised with runChange := false } }
  | some .markTrouble => { c with raised := { c.raised with markTrouble := false } }
  | _ => c

/-- GET_NOTICE (R160). -/
def execGetNotice (p : Port) (body : List Byte) (s : State) : Host.Outcome State Fault Refusal :=
  .next
    (takeCommand p body readNothing
      (fun _ s =>
        (s.modPort p (·.clearReturned (s.pendingEnabled p).highest)).respond p (.okWith (s.noticeBytes p)))
      s)

/-- GET_STATUS (R3, R161); every part is given at the instant the command is taken (log 8). -/
def execGetStatus (p : Port) (body : List Byte) (s : State) : Host.Outcome State Fault Refusal :=
  .next
    (takeCommand p body readNothing
      (fun _ s => (s.modPos fun u => { u with encoderFault := false }).respond p (.okWith s.statusBytes))
      s)

/-- The free bytes shifted out where the manual states none (log 7). -/
def freeBytes (first n : Nat) : List Byte := (List.range n).map fun i => Config.freeByte (first + i)

/-- R157: the first n bytes of a response frame, and free bytes past its end (log 7). -/
def State.shiftResponse (s : State) (p : Port) (frame : List Byte) (n : Nat) : State :=
  let past := n - frame.length
  { s with freeDraws := s.freeDraws + past }.shiftOut p (frame.take n ++ freeBytes s.freeDraws past)

/-- R157: the response is discarded and the port becomes IDLE when the whole frame has been shifted out. -/
def PortState.fetched (c : PortState) (frame : List Byte) (n : Nat) : PortState :=
  if frame.length ≤ n then { c with phase := .idle, held := none } else c

/-- R154, R157: FETCH with n bytes shifted out after the status byte. -/
def State.fetch (s : State) (p : Port) (n : Nat) : State :=
  if s.runState = .init then s.shiftResponse p [] n
  else
    match (s.ports.get p).phase, (s.ports.get p).held with
    | .responseHeld, some r => (s.shiftResponse p r.frame n).modPort p (·.fetched r.frame n)
    | _, _ => s.shiftResponse p Response.emptyNone.frame n

/-- FETCH (R154, R157). -/
def execFetch (p : Port) (clocked : Nat) (s : State) : Host.Outcome State Fault Refusal := .next (s.fetch p clocked)

/-- UNKNOWN_COMMAND (R155, R156 check 3); a code that names a command spells no such event (log 2). -/
def execUnknownCommand (p : Port) (code : Byte) (body : List Byte) (s : State) : Host.Outcome State Fault Refusal :=
  .next (if codeUnknown code then takeFrame p body.length (fun s => s.refuse p .unknown) s else s)

/-- BAD_FRAME (R154, R156 check 1); bytes that make no bad frame spell no such event (log 2). -/
def execBadFrame (p : Port) (code : Byte) (rest : List Byte) (s : State) : Host.Outcome State Fault Refusal :=
  .next
    (if isBadFrame code rest then
      let s := s.shiftFiller p rest.length
      if s.runState = .init then s else s.portFault p .frame
    else s)

end Sys2Proof.Machine
end

