-- ==== Sys2Proof/Machine/PositionUnit.lean ====
section
/-! DEFINITION. Web position and line triggering (chapter 1): encoder edges, the divider, triggers and the skipped run, splice
capture and SET_LINE. -/

namespace Sys2Proof.Machine

/-! ### Encoder edges -/

/-- R1: the next pair of the forward sequence (0,0), (1,0), (1,1), (0,1). -/
def forwardOf : Bool × Bool → Bool × Bool
  | (false, false) => (true, false)
  | (true, false) => (true, true)
  | (true, true) => (false, true)
  | (false, true) => (false, false)

/-- R1, R2: what a pair of levels is after the held pair. -/
inductive EdgeKind where
  | unchanged
  | forward
  | backward
  | illegal
  deriving DecidableEq, Repr

/-- R1, R2: the kind of an edge. -/
def edgeKind (held new : Bool × Bool) : EdgeKind :=
  if new = held then .unchanged
  else if new = forwardOf held then .forward
  else if held = forwardOf new then .backward
  else .illegal

/-- R12: the open skipped run is closed with its SKIPPED record. -/
def State.closeSkipped (s : State) : State :=
  match s.pos.skipped with
  | none => s
  | some r =>
    (s.modPos fun u => { u with skipped := none }).offer .positionUnit
      { side := none, lane := none, position := r.first, content := .skipped r.last r.count r.preceding }

/-- R10, R11: TRIG is pulsed, with TSYNC high for the SYNC trigger, and the time since trigger restarts. -/
def PositionUnit.pulseTrig (u : PositionUnit) (sync : Bool) : PositionUnit :=
  { u with
    sinceTrigger := 0
    trigPulses := u.trigPulses + 1
    syncPulses := if sync then u.syncPulses + 1 else u.syncPulses }

/-- R11: a due trigger is issued at the web position. -/
def State.issueTrigger (s : State) : State :=
  let s := s.modPos fun u => { u with lineNumber := u.lineNumber + 1 }.pulseTrig false
  s.closeSkipped.openSlots s.pos.lineNumber s.pos.web

/-- R11: a due trigger is skipped: the skipped run is opened or extended. -/
def PositionUnit.skipTrigger (u : PositionUnit) : PositionUnit :=
  { u with
    skipped :=
      some
        (match u.skipped with
        | none => { first := u.web, last := u.web, count := 1, preceding := u.lineNumber }
        | some r => { r with last := u.web, count := satSucc Config.max16 r.count }) }

/-- R9, R11: the holdoff test of a due trigger. -/
def PositionUnit.holdoffElapsed (u : PositionUnit) : Bool :=
  decide (u.holdoff = 0) || decide (u.holdoff ≤ u.sinceTrigger)

/-- R7, R8: a present pending pitch becomes P, and the divider is loaded with P. -/
def PositionUnit.loadDivider (u : PositionUnit) : PositionUnit :=
  let pitch := u.pendingPitch.getD u.pitch
  { u with pitch := pitch, pendingPitch := none, divider := pitch }

/-- R7, R11: an advancing count in INSPECTING reaches the divider; at an underflow a trigger is due. -/
def State.divide (s : State) : State :=
  if s.pos.divider - 1 = 0 then
    let s := s.modPos (·.loadDivider)
    if s.pos.holdoffElapsed then s.issueTrigger else s.modPos (·.skipTrigger)
  else s.modPos fun u => { u with divider := u.divider - 1 }

/-- R1, R4, R7, R148: a forward count. -/
def State.forwardCount (s : State) : State :=
  let s := s.modPos fun u => { u with web := u.web + 1 }
  let s :=
    if ahead s.pos.web s.pos.highWater then
      let s := s.modPos fun u => { u with highWater := u.web }
      if s.runState = .inspecting then s.divide else s
    else s
  s.fireAt s.pos.web

/-- R1, R5, R147: a backward count, with the deep-rewind resync. -/
def State.backwardCount (s : State) : State :=
  let s := s.modPos fun u => { u with web := u.web - 1 }
  if 2 ^ 30 < (s.pos.highWater - s.pos.web).toNat then (s.modPos fun u => { u with highWater := u.web }).loseOrders
  else s

/-- R2: an illegal transition. -/
def State.illegalTransition (s : State) : State :=
  if s.pos.encoderFault then s
  else
    (s.modPos fun u => { u with encoderFault := true }).offer .positionUnit
      { side := none, lane := none, position := s.pos.web, content := .encoderFault s.pos.highWater }

/-- ENCODER_EDGE (R1 to R5, R7, R11). -/
def execEncoderEdge (encA encB : Bool) (s : State) : Host.Outcome State Fault Refusal :=
  let held := s.modPos fun u => { u with encA := encA, encB := encB }
  .next
    (match edgeKind (s.pos.encA, s.pos.encB) (encA, encB) with
    | .unchanged => s
    | .forward => held.forwardCount
    | .backward => held.backwardCount
    | .illegal => held.illegalTransition)

/-! ### Splices -/

/-- R15: whether a splice is handed on in a run state. -/
def handsOn : RunState → Bool
  | .inspecting => true
  | .stopping => true
  | _ => false

/-- R15: the arrival position of a splice captured at a web position. -/
def PositionUnit.arrivalOf (u : PositionUnit) (capture : Position) : Position :=
  capture + BitVec.ofNat 32 u.spliceDistance

/-- SPLICE_EDGE (R14, R15). -/
def execSpliceEdge (s : State) : Host.Outcome State Fault Refusal :=
  let capture := s.pos.web
  let arrival := s.pos.arrivalOf capture
  let s := s.modPos fun u => { u with prevSpliceCapture := u.spliceCapture, spliceCapture := capture }
  let s := s.offer .positionUnit
    { side := none, lane := none, position := capture,
      content := .splice s.pos.prevSpliceCapture (if handsOn s.runState then some arrival else none) }
  .next (if handsOn s.runState then s.handOnSplice capture arrival else s)

/-! ### SET_LINE -/

/-- A field is absent or lies in lo to hi. -/
def fieldIn (lo hi : Nat) : Option Nat → Bool
  | none => true
  | some n => decide (lo ≤ n) && decide (n ≤ hi)

/-- R16: every present field lies inside its range. -/
def SetLineBody.inRange (b : SetLineBody) : Bool :=
  fieldIn 1 4096 b.pitch && fieldIn 0 65535 b.holdoff && fieldIn 0 Config.maxDistance b.spliceDistance
    && fieldIn 20 65535 b.headWait && fieldIn 0 Config.maxDistance b.offsetTop
    && fieldIn 0 Config.maxDistance b.offsetBottom

/-- R16: the position unit's fields of a SET_LINE. -/
def PositionUnit.applyLine (u : PositionUnit) (b : SetLineBody) : PositionUnit :=
  { u with
    pendingPitch := b.pitch.or u.pendingPitch
    holdoff := b.holdoff.getD u.holdoff
    spliceDistance := b.spliceDistance.getD u.spliceDistance
    offset := { top := b.offsetTop.getD u.offset.top, bottom := b.offsetBottom.getD u.offset.bottom } }

/-- R16, R38: the head wait of a SET_LINE. -/
def Assembler.applyLine (a : Assembler) (b : SetLineBody) : Assembler := { a with headWait := b.headWait.getD a.headWait }

/-- SET_LINE (R16). -/
def execSetLine (p : Port) (body : List Byte) (s : State) : Host.Outcome State Fault Refusal :=
  .next
    (takeCommand p body readSetLine
      (fun b s =>
        if !b.inRange then s.refuse p .range
        else if (b.offsetTop.isSome || b.offsetBottom.isSome) && decide (s.runState ≠ .standby) then s.refuse p .state
        else
          (((s.modPos (·.applyLine b)).modAsm .top (·.applyLine b)).modAsm .bottom (·.applyLine b)).answerOk p)
      s)

end Sys2Proof.Machine
end

