-- ==== Sys2Proof/Machine/RecordStore.lean ====
section
/-! DEFINITION. The record store (chapter 8): the append arbiter, eviction, READ_RECORDS, SET_FILTER, the stale timers of
R159, and the store's part of PORT_RESET. -/

namespace Sys2Proof.Machine

/-! ### Classes -/

/-- R132: the class of a record. -/
def Content.recordClass : Content → RecordClass
  | .pinhole .. => .defect
  | .streakOpen .. => .defect
  | .streakContinue .. => .defect
  | .streakClose .. => .defect
  | .blind .. => .coverage
  | .dropped .. => .coverage
  | .skipped .. => .coverage
  | .fired .. => .mark
  | .suppressed .. => .mark
  | .late .. => .mark
  | .lost .. => .mark
  | .unconfirmed .. => .mark
  | .run .. => .event
  | .splice .. => .event
  | .spliceArrived .. => .event
  | .bankSwitched .. => .event
  | .teachDone .. => .event
  | .teachAborted .. => .event
  | .encoderFault .. => .event
  | .headState .. => .event
  | .overflowRuns .. => .overflow
  | .overflowBlobs .. => .overflow
  | .overflowStreaks .. => .overflow
  | .overflowSplices .. => .overflow

/-- A class is in a set. -/
def ClassSet.has (x : ClassSet) : RecordClass → Bool
  | .defect => x.defect
  | .coverage => x.coverage
  | .mark => x.mark
  | .event => x.event
  | .overflow => x.overflow

/-- The set names no class. -/
def ClassSet.isEmpty (x : ClassSet) : Bool := !(x.defect || x.coverage || x.mark || x.event || x.overflow)

/-- A port reads a record: its class is in the filter. -/
def ClassSet.reads (x : ClassSet) (r : Record) : Bool := x.has r.draft.content.recordClass

/-! ### The pending count and the stale timer -/

/-- R159: the stale timer of a port after its pending count went from `former` to `new`, other than at a READ_RECORDS:
stopped at 0, started when the count rises from 0 and the stale time is not 0. -/
def staleAfter (now staleTime former new : Nat) (timer : Option Nat) : Option Nat :=
  if new = 0 then none else if former = 0 ∧ staleTime ≠ 0 then some (now + 1000 * staleTime) else timer

/-- R129, R130, R134: a port's pending count changes, and its stale timer with it. -/
def State.setPending (s : State) (p : Port) (n : Nat) : State :=
  let r := s.reading p
  (s.modReading p fun r => { r with pending := n }).modPort p fun c =>
    { c with staleTimer := staleAfter s.now r.staleTime r.pending n c.staleTimer }

/-! ### Eviction and appending -/

/-- R130: a port whose cursor stands on the evicted record. -/
def State.evictFrom (x : Record) (s : State) (p : Port) : State :=
  let r := s.reading p
  if r.cursor = x.seq then
    let s :=
      if r.filter.reads x then
        let s := if r.lost = 0 then s.raiseStoreGap p else s
        (s.modReading p fun r => { r with lost := satSucc Config.max16 r.lost }).setPending p (r.pending - 1)
      else s
    s.modReading p fun r => { r with cursor := x.seq + 1 }
  else s

/-- R129: a full store evicts its oldest record. -/
def State.evictIfFull (s : State) : State :=
  if s.store.records.length < Config.storeCapacity then s
  else
    match s.store.records with
    | [] => s
    | x :: rest =>
      (s.modStore fun t => { t with records := rest, oldestSeq := t.oldestSeq + 1 }).atEachPort (State.evictFrom x)

/-- R129: a port whose filter holds the class of an appended record counts it. -/
def State.countAppended (x : Record) (s : State) (p : Port) : State :=
  if (s.reading p).filter.reads x then s.setPending p ((s.reading p).pending + 1) else s

/-- R127, R129, R131: append a taken record and hand it to the mark scheduler. -/
def State.append (s : State) (o : Offer) : State :=
  let s := s.evictIfFull
  let x : Record := { seq := s.store.nextSeq, draft := o.draft }
  let s := s.modStore fun t => { t with records := t.records ++ [x], nextSeq := t.nextSeq + 1 }
  (s.atEachPort (State.countAppended x)).considerRecord x o.flag

/-! ### The append arbiter -/

/-- R164 to R167: the steps whose records have to be appended before those of a step. The RUN record of START follows the records
of START, that of STOP the SKIPPED record; the end of drain follows the RUN record of a STOP that it ends directly, each of its
steps is complete before the next, and its RUN record comes last. -/
def EventStep.follows : EventStep → List EventStep
  | .startRecords => []
  | .startRun => [.startRecords]
  | .stopRecords => []
  | .stopRun => [.stopRecords]
  | .stopRunIdle => [.stopRecords]
  | .drainBlobs => [.stopRunIdle]
  | .drainStreaks => [.stopRunIdle, .drainBlobs]
  | .drainCoverage => [.stopRunIdle, .drainBlobs, .drainStreaks]
  | .drainTeach => [.stopRunIdle, .drainBlobs, .drainStreaks, .drainCoverage]
  | .drainRun => [.stopRunIdle, .drainBlobs, .drainStreaks, .drainCoverage, .drainTeach]

/-- R164 to R167: a record waits for an earlier one whose step its own step follows. -/
def Offer.waitsFor (o earlier : Offer) : Bool :=
  match o.step, earlier.step with
  | some step, some former => step.follows.contains former
  | _, _ => false

/-- R164 to R167: a record waits for one of those made before it in its run, that is, behind the RUN record of the last end of
drain among them. -/
def Offer.held (o : Offer) (made : List Offer) : Bool :=
  (made.reverse.takeWhile (·.step ≠ some .drainRun)).any o.waitsFor

/-- R74, R128: the record list of the line operation whose engine a writer is. -/
def State.lineRecords (s : State) : Writer → List Offer
  | .engine side => (s.eng.get side).recordList
  | _ => []

/-- R128: the record at a writer's front, if it has one waiting that it offers now: those it made first, unless the first waits for
a record made before it (R164 to R167), and behind them the record list of its line operation. -/
def State.front (s : State) (w : Writer) : Option Offer :=
  match s.store.waiting.find? (·.writer = w) with
  | some o => if o.held (s.store.waiting.takeWhile (·.writer ≠ w)) then none else some o
  | none => (s.lineRecords w).head?

/-- R128: the arbiter takes a writer's front record. -/
def State.takeFront (s : State) (w : Writer) : State :=
  if s.store.waiting.any (·.writer = w) then
    s.modStore fun t => { t with waiting := t.waiting.eraseP (·.writer = w) }
  else
    match w with
    | .engine side => s.modEng side fun e => { e with recordList := e.recordList.tail }
    | _ => s

/-- R128: the writer served moves to the last place of the rotation. -/
def moveLast (w : Writer) (rotation : List Writer) : List Writer := rotation.filter (· ≠ w) ++ [w]

/-- R128: the writer served next, the first in the rotation with a record waiting. -/
def State.nextWriter (s : State) : Option Writer := s.store.rotation.find? fun w => (s.front w).isSome

/-- R128, R129: one record is taken and appended; with none waiting nothing happens. -/
def State.arbitrate (s : State) : State :=
  match s.nextWriter with
  | none => s
  | some w =>
    match s.front w with
    | none => s
    | some o => ((s.takeFront w).modStore fun t => { t with rotation := moveLast w t.rotation }).append o

/-- RECORD_APPEND (R128 to R131). -/
def execRecordAppend (s : State) : Host.Outcome State Fault Refusal := .next s.arbitrate

/-! ### Reading -/

/-- R134: the records held at or after a cursor. -/
def Store.fromCursor (t : Store) (cursor : Seq) : List Record := t.records.filter fun x => atOrAhead x.seq cursor

/-- R135: the outcome of examining records: those placed, and the cursor. -/
def examine (filter : ClassSet) : Nat → List Record → Seq → List Record × Seq
  | 0, _, cursor => ([], cursor)
  | _ + 1, [], cursor => ([], cursor)
  | n + 1, x :: rest, _ =>
    if filter.reads x then
      let r := examine filter n rest (x.seq + 1)
      (x :: r.1, r.2)
    else examine filter (n + 1) rest (x.seq + 1)

/-- R135: the maximum is taken into 1 to 16. -/
def clampMaximum (n : Nat) : Nat := max 1 (min 16 n)

/-- R135, R159: READ_RECORDS at the store: the response, the reading state, the two notices and the stale timer. -/
def State.readRecords (s : State) (p : Port) (maximum : Nat) : State :=
  let r := s.reading p
  let read := examine r.filter (clampMaximum maximum) (s.store.fromCursor r.cursor) r.cursor
  let pending := r.pending - read.1.length
  let s := s.modReading p fun r => { r with cursor := read.2, pending := pending, lost := 0 }
  let s := s.modPort p fun c =>
    { c with
      raised := { c.raised with storeGap := if r.lost = 0 then c.raised.storeGap else false, recordsStale := false }
      staleTimer :=
        if pending = 0 then none else if r.staleTime = 0 then c.staleTimer else some (s.now + 1000 * r.staleTime) }
  s.respond p (.okWith (readBody r.lost read.1 pending))

/-- READ_RECORDS (R135, R158, R159). -/
def execReadRecords (p : Port) (body : List Byte) (s : State) : Host.Outcome State Fault Refusal :=
  .next (takeCommand p body readOneByte (fun b s => s.readRecords p b.toNat) s)

/-- R137: the trigger level is taken into 1 to 2048. -/
def clampTrigger (n : Nat) : Nat := max 1 (min 2048 n)

/-- R134, R137: the pending count under a filter. -/
def Store.countPending (t : Store) (cursor : Seq) (filter : ClassSet) : Nat :=
  ((t.fromCursor cursor).filter filter.reads).length

/-- R137, R159: SET_FILTER at the store. -/
def State.setFilter (s : State) (p : Port) (b : SetFilterBody) : State :=
  let s := s.modReading p fun r =>
    { r with filter := b.classes, trigger := clampTrigger b.trigger, staleTime := b.staleTime }
  let s := s.setPending p (s.store.countPending (s.reading p).cursor b.classes)
  if b.staleTime = 0 then s.modPort p fun c => { c with staleTimer := none } else s

/-- SET_FILTER (R137, R159). -/
def execSetFilter (p : Port) (body : List Byte) (s : State) : Host.Outcome State Fault Refusal :=
  .next
    (takeCommand p body readSetFilter
      (fun b s => if b.classes.isEmpty then s.refuse p .range else (s.setFilter p b).answerOk p)
      s)

/-- STALE_TIMER_EXPIRY (R159). -/
def execStaleTimerExpiry (p : Port) (s : State) : Host.Outcome State Fault Refusal :=
  .next
    (match (s.ports.get p).staleTimer with
    | none => s
    | some t =>
      (s.reachTime t).modPort p fun c =>
        { c with raised := { c.raised with recordsStale := true }, staleTimer := none })

/-- R138, R162: the issuing port's reading state, notices, fault cause and count, enables and stale timer. -/
def State.resetPort (s : State) (p : Port) : State :=
  (s.modReading p fun _ => Reading.atCursor s.store.nextSeq).modPort p fun c =>
    { c with
      raised := RaisedNotices.empty
      faultCause := none
      faultCount := 0
      enables := NoticeSet.empty
      staleTimer := none }

/-- PORT_RESET (R138, R162). -/
def execPortReset (p : Port) (body : List Byte) (s : State) : Host.Outcome State Fault Refusal :=
  .next (takeCommand p body readNothing (fun _ s => (s.resetPort p).answerOk p) s)

end Sys2Proof.Machine
end

