-- ==== Sys2Proof/Machine/Resets.lean ====
section
/-! DEFINITION. POWER_ON and the RESET pin (R163, R168). -/

namespace Sys2Proof.Machine

/-- R163: every block takes its power-on values, the retained tables among them, and the run state is INIT; the time runs
on, and free bytes already used are not used again. -/
def State.enterInit (s : State) (encA encB : Bool) : State :=
  { State.atPowerOn encA encB s.pending with now := s.now, freeDraws := s.freeDraws }

/-- POWER_ON (R163). -/
def execPowerOn (encA encB : Bool) (s : State) : Host.Outcome State Fault Refusal := .next (s.enterInit encA encB)

/-- R168: the marker record is retained, and the rest of a marker takes its reset values (R153). -/
def State.markersRetained (s : State) : Vector Marker 8 :=
  #v[Marker.atReset (s.marker 0).record, Marker.atReset (s.marker 1).record, Marker.atReset (s.marker 2).record,
    Marker.atReset (s.marker 3).record, Marker.atReset (s.marker 4).record, Marker.atReset (s.marker 5).record,
    Marker.atReset (s.marker 6).record, Marker.atReset (s.marker 7).record]

/-- R87, R106, R126: a side engine at the RESET pin keeps its calibration table and its bin width. -/
def Engine.atResetPin (e : Engine) : Engine := Engine.atReset e.cal e.binWidth

/-- R168: the RESET pin in STANDBY, INSPECTING or STOPPING: every block takes its reset values, the retained tables are
kept, and the run state is STANDBY. -/
def State.resetPinned (s : State) (encA encB : Bool) : State :=
  { s.enterInit encA encB with
    runState := .standby
    eng := { top := s.eng.top.atResetPin, bottom := s.eng.bottom.atResetPin }
    lanes := LaneMap.atReset s.lanes.recipes s.lanes.banks
    marks := { markers := s.markersRetained, orders := [] } }

/-- RESET_PIN (R163, R168): taken in INIT it restarts initialisation with power-on values throughout. -/
def execResetPin (encA encB : Bool) (s : State) : Host.Outcome State Fault Refusal :=
  .next (if s.runState = .init then s.enterInit encA encB else s.resetPinned encA encB)

end Sys2Proof.Machine
end

