-- ==== Sys2Proof/Machine/RunControl.lean ====
section
/-! DEFINITION. Run control (chapter 11): START, STOP, the end of drain and the end of INIT. -/

namespace Sys2Proof.Machine

/-- R133, R158, R163 to R167: a change of run state: the RUN record is offered and RUN_CHANGE is raised at each port. -/
def State.changeRunState (s : State) (new : RunState) (port : Option Port) : State :=
  let former := s.runState
  ({ s with runState := new }.offer .runControl
      { side := none, lane := none, position := s.pos.web, content := .run former new port }).raiseRunChange

/-- INIT_END (R162, R163): the ports take their end-of-INIT state, and the run state becomes STANDBY. -/
def execInitEnd (s : State) : Host.Outcome State Fault Refusal :=
  .next
    (if s.runState = .init then
      (s.atEachPort fun s p =>
            (s.noteTransfer p).modPort p fun c =>
              { PortState.atReset with dataOut := c.dataOut, shownStatus := c.shownStatus }).changeRunState
        .standby none
    else s)

/-! ### START -/

/-- R58, R164: the active bank of a side is valid, and its target bank if it has not switched under a pending switch. -/
def State.startBanksValid (s : State) (side : Side) : Bool :=
  bankValid (s.activeBank side)
    && (match s.unswitched side with
      | some w => bankValid ((s.lanes.banks.get side).get (w.target.get side))
      | none => true)

/-- R33: at START a head in MUTE returns to LIVE, and the miss count of a head in LIVE or MUTE is set to 0. -/
def State.startHead (s : State) (h : HeadId) : State :=
  match (s.head h).state with
  | .mute => (s.setMisses h 0).setHeadState h .live .start
  | .live => s.setMisses h 0
  | _ => s

/-- R164 steps 1 to 3. -/
def State.prepareStart (s : State) : State :=
  let s := allHeads.foldl State.startHead s
  let s := (s.modEng .top (·.clearAccumulators)).modEng .bottom (·.clearAccumulators)
  s.changeOverHeadless

/-- R10, R164 step 4: the position unit at START, and the SYNC trigger. -/
def State.syncTrigger (s : State) : State :=
  let s := s.modPos fun u => { u.loadDivider with highWater := u.web, lineNumber := 0 }.pulseTrig true
  s.openSlots 0 s.pos.web

/-- R164: START that is not refused. -/
def State.startRun (s : State) (p : Port) : State :=
  ((s.inStep .startRecords State.prepareStart).syncTrigger.inStep .startRun
      (·.changeRunState .inspecting (some p))).answerOk p

/-- START (R164). -/
def execStart (p : Port) (body : List Byte) (s : State) : Host.Outcome State Fault Refusal :=
  .next
    (takeCommand p body readNothing
      (fun _ s =>
        if s.runState ≠ .standby then s.refuse p .state
        else if !allHeads.any fun h => (s.head h).geometry.enabled then s.refuse p .noHeads
        else if !(s.startBanksValid .top && s.startBanksValid .bottom) then s.refuse p .invalidMap
        else s.startRun p)
      s)

/-! ### STOP and the drain -/

/-- R51: an assembler's idle report. -/
def Assembler.idle (a : Assembler) : Bool := a.slots.isEmpty && a.queue.isEmpty

/-- R71: an engine's idle report. -/
def Engine.idle (e : Engine) : Bool := e.inFlight.isNone

/-- R166: all four idle reports stand. -/
def State.allIdle (s : State) : Bool :=
  s.asm.top.idle && s.asm.bottom.idle && s.eng.top.idle && s.eng.bottom.idle

/-- R165, R166: STOP that is not refused. A STOP that finds all four idle reports standing ends the drain directly. -/
def State.stopRun (s : State) (p : Port) : State :=
  ((s.inStep .stopRecords State.closeSkipped).inStep (if s.allIdle then .stopRunIdle else .stopRun)
      (·.changeRunState .stopping (some p))).answerOk p

/-- STOP (R12, R18, R165). -/
def execStop (p : Port) (body : List Byte) (s : State) : Host.Outcome State Fault Refusal :=
  .next
    (takeCommand p body readNothing
      (fun _ s => if s.runState ≠ .inspecting then s.refuse p .state else s.stopRun p)
      s)

/-- Do something for TOP and then for BOTTOM. -/
def State.bothSides (s : State) (f : State → Side → State) : State := f (f s .top) .bottom

/-- R103, R167 step 1: every open blob of a side closes with flag TRUNCATED. -/
def State.truncateBlobs (s : State) (side : Side) : State :=
  let e := s.eng.get side
  let made :=
    closeBlobs side (s.activeBank side) e.recipes { PinholeFlags.gap with truncated := true } e.blobs
  (s.modEng side fun e => { e with blobs := [] }).offerAll (.engine side) made

/-- R125, R167 step 2: every streak of a side closes with reason STOP. A bin that was in STREAK owns no entry from here on
and is QUIET; its other fields go at step 6. -/
def State.stopStreaks (s : State) (side : Side) : State :=
  let made := (s.eng.get side).closeStreaks side (s.activeBank side) .stop
  (s.modEng side fun e =>
    { e with
      streaks := []
      bins :=
        (e.bins.map fun jb => (jb.1, if jb.2.state = .streak then Bin.quiet jb.2.s else jb.2)).filter fun jb =>
          decide (jb.2 ≠ Bin.quiet 0) }).offerAll (.engine side) made

/-- R167 step 3: every candidate of a side is discarded. -/
def State.dropCandidates (s : State) (side : Side) : State := s.modEng side (·.discardCandidates)

/-- R51, R167 step 4: the open drop run and blind runs of a side close. -/
def State.closeCoverage (s : State) (side : Side) : State :=
  allHeads.foldl (State.closeBlindRun side) (s.closeDropRun side)

/-- R86, R167 step 5: a running teach of a side ends with reason STOP. -/
def State.stopTeach (s : State) (side : Side) : State :=
  match (s.eng.get side).teach with
  | none => s
  | some t =>
    (s.modEng side fun e => { e with teach := none }).offerAll (.engine side)
      [teachAbortedRecord side .stop s.pos.web t]

/-- R167 step 6: every bin of a side is QUIET with s = 0. -/
def State.clearBins (s : State) (side : Side) : State := s.modEng side (·.quietBins)

/-- R167 steps 1 to 6, each complete on both sides before the next. -/
def State.closingSteps (s : State) : State :=
  let s := s.inStep .drainBlobs (·.bothSides State.truncateBlobs)
  let s := s.inStep .drainStreaks (·.bothSides State.stopStreaks)
  let s := s.bothSides State.dropCandidates
  let s := s.inStep .drainCoverage (·.bothSides State.closeCoverage)
  let s := s.inStep .drainTeach (·.bothSides State.stopTeach)
  s.bothSides State.clearBins

/-- R167: the end of drain. -/
def State.endDrain (s : State) : State := s.closingSteps.inStep .drainRun (·.changeRunState .standby none)

/-- DRAIN_END (R166, R167): all four idle reports stand in STOPPING. -/
def execDrainEnd (s : State) : Host.Outcome State Fault Refusal :=
  .next (if s.runState = .stopping ∧ s.allIdle then s.endDrain else s)

end Sys2Proof.Machine
end

