-- ==== Sys2Proof/Machine/Dispatch.lean ====
section
/-! DEFINITION. exec: one arm per command. -/

namespace Sys2Proof.Machine

def exec (i : Instr) (s : State) : Host.Outcome State Fault Refusal :=
  match i with
  | .powerOn encA encB => Sys2Proof.Machine.execPowerOn encA encB s
  | .initEnd => Sys2Proof.Machine.execInitEnd s
  | .resetPin encA encB => Sys2Proof.Machine.execResetPin encA encB s
  | .encoderEdge encA encB => Sys2Proof.Machine.execEncoderEdge encA encB s
  | .spliceEdge => Sys2Proof.Machine.execSpliceEdge s
  | .linkUp h => Sys2Proof.Machine.execLinkUp h s
  | .linkDown h => Sys2Proof.Machine.execLinkDown h s
  | .completePacket h bytes => Sys2Proof.Machine.execCompletePacket h bytes s
  | .abortedPacket h bytes => Sys2Proof.Machine.execAbortedPacket h bytes s
  | .waitExpiry side line => Sys2Proof.Machine.execWaitExpiry side line s
  | .lineTake side => Sys2Proof.Machine.execLineTake side s
  | .lineOperationEnd side => Sys2Proof.Machine.execLineOperationEnd side s
  | .recordAppend => Sys2Proof.Machine.execRecordAppend s
  | .pulseEnd k => Sys2Proof.Machine.execPulseEnd k s
  | .mcfEdge k => Sys2Proof.Machine.execMcfEdge k s
  | .confirmWindowExpiry k => Sys2Proof.Machine.execConfirmWindowExpiry k s
  | .staleTimerExpiry p => Sys2Proof.Machine.execStaleTimerExpiry p s
  | .drainEnd => Sys2Proof.Machine.execDrainEnd s
  | .setHead p body => Sys2Proof.Machine.execSetHead p body s
  | .getHead p body => Sys2Proof.Machine.execGetHead p body s
  | .setLine p body => Sys2Proof.Machine.execSetLine p body s
  | .setCal p body => Sys2Proof.Machine.execSetCal p body s
  | .teach p body => Sys2Proof.Machine.execTeach p body s
  | .teachAbort p body => Sys2Proof.Machine.execTeachAbort p body s
  | .setSide p body => Sys2Proof.Machine.execSetSide p body s
  | .setRecipe p body => Sys2Proof.Machine.execSetRecipe p body s
  | .setLane p body => Sys2Proof.Machine.execSetLane p body s
  | .switchBank p body => Sys2Proof.Machine.execSwitchBank p body s
  | .cancelSwitch p body => Sys2Proof.Machine.execCancelSwitch p body s
  | .setMarker p body => Sys2Proof.Machine.execSetMarker p body s
  | .mark p body => Sys2Proof.Machine.execMark p body s
  | .getMarker p body => Sys2Proof.Machine.execGetMarker p body s
  | .readRecords p body => Sys2Proof.Machine.execReadRecords p body s
  | .setFilter p body => Sys2Proof.Machine.execSetFilter p body s
  | .start p body => Sys2Proof.Machine.execStart p body s
  | .stop p body => Sys2Proof.Machine.execStop p body s
  | .setNotices p body => Sys2Proof.Machine.execSetNotices p body s
  | .getNotice p body => Sys2Proof.Machine.execGetNotice p body s
  | .getStatus p body => Sys2Proof.Machine.execGetStatus p body s
  | .portReset p body => Sys2Proof.Machine.execPortReset p body s
  | .fetch p clocked => Sys2Proof.Machine.execFetch p clocked s
  | .unknownCommand p code body => Sys2Proof.Machine.execUnknownCommand p code body s
  | .badFrame p code rest => Sys2Proof.Machine.execBadFrame p code rest s

end Sys2Proof.Machine
end

