-- ==== Sys2Proof/Machine/Step.lean ====
section
/-! DEFINITION. A step of the part, and the state with a command in front of its queue. -/

namespace Sys2Proof.Machine

/-- A step takes the command at the front of the queue; with none waiting, one microsecond passes (log 1, log 3). -/
def step (s : State) : Host.Outcome State Fault Refusal :=
  match s.pending with
  | [] => .next s.tick
  | c :: rest => exec c { s with pending := rest }

/-- The state with the command that a word spells put in front of its queue; no word spells one. -/
def State.withFetchWord (s : State) (nbits w : Nat) : State :=
  match decodeTableWord nbits w with
  | some c => { s with pending := c :: s.pending }
  | none => s

end Sys2Proof.Machine
end

