-- ==== Sys2Proof/Safety.lean ====
section
/-! DEFINITION. The terms that statements about the part are made in: which commands are command frames, what the command
cycle of a port leaves, the values after power-on block by block, what a head does to build a check byte, and the relations
the manual says always hold. -/

namespace Sys2Proof

/-- R1: the forward sequence, as pairs of the held and the new levels of (ENC_A, ENC_B). -/
def forwardEdges : List ((Bool × Bool) × Bool × Bool) :=
  [((false, false), true, false), ((true, false), true, true), ((true, true), false, true), ((false, true), false, false)]

/-- The port and the body of a command that is a whole command frame. The other commands are events, FETCH transfers, bad
frames, and UNKNOWN_COMMAND with a code that names a command, which spells no event (log 2). -/
def Instr.commandFrame : Instr → Option (Port × List Byte)
  | .powerOn _ _ => none
  | .initEnd => none
  | .resetPin _ _ => none
  | .encoderEdge _ _ => none
  | .spliceEdge => none
  | .linkUp _ => none
  | .linkDown _ => none
  | .completePacket _ _ => none
  | .abortedPacket _ _ => none
  | .waitExpiry _ _ => none
  | .lineTake _ => none
  | .lineOperationEnd _ => none
  | .recordAppend => none
  | .pulseEnd _ => none
  | .mcfEdge _ => none
  | .confirmWindowExpiry _ => none
  | .staleTimerExpiry _ => none
  | .drainEnd => none
  | .setHead p body => some (p, body)
  | .getHead p body => some (p, body)
  | .setLine p body => some (p, body)
  | .setCal p body => some (p, body)
  | .teach p body => some (p, body)
  | .teachAbort p body => some (p, body)
  | .setSide p body => some (p, body)
  | .setRecipe p body => some (p, body)
  | .setLane p body => some (p, body)
  | .switchBank p body => some (p, body)
  | .cancelSwitch p body => some (p, body)
  | .setMarker p body => some (p, body)
  | .mark p body => some (p, body)
  | .getMarker p body => some (p, body)
  | .readRecords p body => some (p, body)
  | .setFilter p body => some (p, body)
  | .start p body => some (p, body)
  | .stop p body => some (p, body)
  | .setNotices p body => some (p, body)
  | .getNotice p body => some (p, body)
  | .getStatus p body => some (p, body)
  | .portReset p body => some (p, body)
  | .fetch _ _ => none
  | .unknownCommand p code body => if Machine.codeUnknown code then some (p, body) else none
  | .badFrame _ _ _ => none

/-- R171, R172: whether a body length is one that the named command allows. SET_LINE's length follows from its presence
byte and SET_CAL's from its count. -/
def Instr.lengthAllowed : Instr → Bool
  | .setHead _ body => decide (body.length = 10)
  | .getHead _ body => decide (body.length = 1)
  | .setLine _ body =>
    match body with
    | [] => false
    | pr :: rest =>
      decide
        (rest.length =
          (if pr.getLsbD 0 then 2 else 0) + (if pr.getLsbD 1 then 2 else 0) + (if pr.getLsbD 2 then 4 else 0)
            + (if pr.getLsbD 3 then 2 else 0) + (if pr.getLsbD 4 then 4 else 0) + (if pr.getLsbD 5 then 4 else 0))
  | .setCal _ body =>
    match body with
    | _ :: _ :: _ :: hi :: lo :: rest => decide (rest.length = 3 * (256 * hi.toNat + lo.toNat))
    | _ => false
  | .teach _ body => decide (body.length = 4)
  | .teachAbort _ body => decide (body.length = 1)
  | .setSide _ body => decide (body.length = 2)
  | .setRecipe _ body => decide (body.length = 14)
  | .setLane _ body => decide (body.length = 14)
  | .switchBank _ body => decide (body.length = 5)
  | .cancelSwitch _ body => decide (body.length = 0)
  | .setMarker _ body => decide (body.length = 12)
  | .mark _ body => decide (body.length = 5)
  | .getMarker _ body => decide (body.length = 1)
  | .readRecords _ body => decide (body.length = 1)
  | .setFilter _ body => decide (body.length = 5)
  | .start _ body => decide (body.length = 0)
  | .stop _ body => decide (body.length = 0)
  | .setNotices _ body => decide (body.length = 1)
  | .getNotice _ body => decide (body.length = 0)
  | .getStatus _ body => decide (body.length = 0)
  | .portReset _ body => decide (body.length = 0)
  | .powerOn _ _ => true
  | .initEnd => true
  | .resetPin _ _ => true
  | .encoderEdge _ _ => true
  | .spliceEdge => true
  | .linkUp _ => true
  | .linkDown _ => true
  | .completePacket _ _ => true
  | .abortedPacket _ _ => true
  | .waitExpiry _ _ => true
  | .lineTake _ => true
  | .lineOperationEnd _ => true
  | .recordAppend => true
  | .pulseEnd _ => true
  | .mcfEdge _ => true
  | .confirmWindowExpiry _ => true
  | .staleTimerExpiry _ => true
  | .drainEnd => true
  | .fetch _ _ => true
  | .unknownCommand _ _ _ => true
  | .badFrame _ _ _ => true

namespace Machine

/-! ### The command cycle of a port -/

/-- R155: a whole command frame that reaches the port now is taken. -/
def State.takes (s : State) (p : Port) : Prop := s.runState ≠ .init ∧ (s.ports.get p).phase ≠ .executing

/-- R154, R171: a transfer of a code byte, a length and a body of `len` bytes has shifted out the status byte and then
filler; nothing else has changed. -/
def State.transferred (s : State) (p : Port) (len : Nat) : State :=
  { s with
    ports := s.ports.set p
        { (s.ports.get p) with
          dataOut := s.statusOut p :: List.replicate (len + 2) 0x00
          shownStatus := none } }

/-- R154, R155: such a transfer carried a command that the port has taken; the port is EXECUTING, and any held response is
gone. -/
def State.begun (s : State) (p : Port) (len : Nat) : State :=
  { s with
    ports :=
      s.ports.set p
        { (s.ports.get p) with
          dataOut := s.statusOut p :: List.replicate (len + 2) 0x00
          shownStatus := none
          phase := .executing
          held := none } }

/-- R154, R155: such a transfer carried a command that is now answered `r`; nothing else has changed. -/
def State.answered (s : State) (p : Port) (len : Nat) (r : Response) : State :=
  { s with
    ports :=
      s.ports.set p
        { (s.ports.get p) with
          dataOut := s.statusOut p :: List.replicate (len + 2) 0x00
          shownStatus := none
          phase := .responseHeld
          held := some r } }

/-- 10.3, R172: the command is refused with this code, and nothing beyond the port has changed. -/
def State.refused (s : State) (p : Port) (len : Nat) (code : ResponseCode) : State :=
  s.answered p len { code := code, body := [] }

/-- R155, R75: such a transfer carried a command that an engine holds; the port is EXECUTING. -/
def State.commandHeld (s : State) (p : Port) (len : Nat) (side : Side) (c : HeldCommand) : State :=
  { s with
    ports :=
      s.ports.set p
        { (s.ports.get p) with
          dataOut := s.statusOut p :: List.replicate (len + 2) 0x00
          shownStatus := none
          phase := .executing
          held := none }
    eng := s.eng.set side { (s.eng.get side) with held := (s.eng.get side).held ++ [c] } }

/-- The time t has been reached (log 4): the clock stands at t, or where it stood if t was past; the time since trigger runs
on and saturates (R9). -/
def State.timeReached (s : State) (t : Nat) : State :=
  { s with
    now := max s.now t
    pos := { s.pos with sinceTrigger := min 65535 (s.pos.sinceTrigger + (t - s.now)) } }

/-- A port with RUN_CHANGE raised. -/
def PortState.withRunChange (c : PortState) : PortState := { c with raised := { c.raised with runChange := true } }

/-- A port with HEAD_CHANGE raised. -/
def PortState.withHeadChange (c : PortState) : PortState := { c with raised := { c.raised with headChange := true } }

/-- A port with MARK_TROUBLE raised. -/
def PortState.withMarkTrouble (c : PortState) : PortState := { c with raised := { c.raised with markTrouble := true } }

/-- The same change at all three ports. -/
def PerPort.all (v : PerPort PortState) (f : PortState → PortState) : PerPort PortState :=
  { a := f v.a, b := f v.b, c := f v.c }

/-- A record that a writer offers outside the steps of START, STOP and the end of drain. -/
def plainOffer (w : Writer) (d : Draft) (flag : Option Bool) : Offer :=
  { writer := w, draft := d, flag := flag, step := none }

/-- The store with these records waiting behind those that waited. -/
def Store.adding (t : Store) (offers : List Offer) : Store := { t with waiting := t.waiting ++ offers }

/-- R171: the byte of a side. -/
def sideByte : Side → Byte
  | .top => 0
  | .bottom => 1

/-- R171: the byte of a bank. -/
def bankByte : Bank → Byte
  | .a => 0
  | .b => 1

/-- R171: the byte of a yes or no. -/
def boolByte : Bool → Byte
  | false => 0
  | true => 1

/-- R171: the byte of a marker index or NONE. -/
def markerByte : Option MarkerId → Byte
  | none => 0xFF
  | some k => BitVec.ofNat 8 k.val

/-! ### The closure of a line -/

/-- R43, R48: the blind run of a head after a queued line in which its result was this one. -/
def blindRunAfter (r : Option BlindRun) (position : Position) : HeadResult → Option BlindRun
  | .full => none
  | .short => some (grown .short)
  | .crc => some (grown .crc)
  | .missing => some (grown .missing)
  | .absent => some (grown .absent)
where
  /-- A run opened with this cause, or extended with its own. -/
  grown (cause : BlindCause) : BlindRun :=
    match r with
    | none => { cause := cause, first := position, last := position, count := 1 }
    | some run => { cause := run.cause, first := run.first, last := position, count := min 65535 (run.count + 1) }

/-- R32, R44: a head of the side after a closure. -/
def headAfterClosure (slot : Slot) (h : HeadId) (r : Head) : Head :=
  if slot.contributions[h].isSome then { r with misses := 0 }
  else if h ∈ slot.expected then
    { r with
      misses := min 255 (r.misses + 1)
      state := if r.state = .live ∧ 3 ≤ min 255 (r.misses + 1) then .mute else r.state }
  else r

/-- R44: the HEAD_STATE records of a closure, heads in ascending index. -/
def State.missRecords (s : State) (side : Side) (slot : Slot) : List Offer :=
  (allHeads.filter fun h =>
      s.headOn side h && decide (h ∈ slot.expected) && slot.contributions[h].isNone
        && decide ((s.head h).state = .live) && decide (2 ≤ (s.head h).misses)).map fun h =>
    plainOffer (.head h)
      { side := some side, lane := none, position := s.pos.web, content := .headState h .live .mute .misses } none

/-- R47: the DROPPED record of a side's open drop run. -/
def State.dropRecords (s : State) (side : Side) : List Offer :=
  match (s.asm.get side).dropRun with
  | none => []
  | some d =>
    [plainOffer (.assembler side)
      { side := some side, lane := none, position := d.first, content := .dropped d.last d.count } none]

/-- R49: the BLIND records of the open blind runs of these heads of a side, in their order. -/
def State.blindRecords (s : State) (side : Side) (heads : List HeadId) : List Offer :=
  heads.flatMap fun h =>
    match (s.asm.get side).blindRuns[h] with
    | none => []
    | some r =>
      [plainOffer (.assembler side)
        { side := some side, lane := none, position := r.first, content := .blind r.last h r.cause r.count } none]

/-- R43 to R49: t is what s becomes when `slot`, the oldest open slot of the side, closes and `rest` are the slots behind it. -/
def State.lineClosed (s t : State) (side : Side) (slot : Slot) (rest : List Slot) : Prop :=
  let fits := (s.asm.get side).queue.length < 4
  let full := allHeads.filter fun h => s.headOn side h && decide (headResult slot h = .full)
  (t.asm.get side).slots = rest ∧ (t.asm.get side).headWait = (s.asm.get side).headWait
    ∧ (∀ other, other ≠ side → t.asm.get other = s.asm.get other)
    ∧ (∀ h : HeadId, t.head h = if s.headOn side h then headAfterClosure slot h (s.head h) else s.head h)
    ∧ (fits →
      (∃ line : LineEntry,
          (t.asm.get side).queue = (s.asm.get side).queue ++ [line] ∧ line.position = slot.position
            ∧ line.precedingDrop = (s.asm.get side).dropRun.map (·.count)
            ∧ ∀ column value,
              (column, value) ∈ line.cols ↔
                ∃ (h : HeadId) (c : Contribution),
                  s.headOn side h = true ∧ slot.contributions[h] = some c ∧ c.mark ≠ .crc ∧ (column, value) ∈ c.cols)
        ∧ (t.asm.get side).dropRun = none
        ∧ (∀ h : HeadId,
          (t.asm.get side).blindRuns[h] =
            if s.headOn side h then blindRunAfter (s.asm.get side).blindRuns[h] slot.position (headResult slot h)
            else (s.asm.get side).blindRuns[h])
        ∧ t.store =
          s.store.adding (s.missRecords side slot ++ s.dropRecords side ++ s.blindRecords side full))
    ∧ (¬fits →
      (t.asm.get side).queue = (s.asm.get side).queue ∧ (t.asm.get side).blindRuns = (s.asm.get side).blindRuns
        ∧ (t.asm.get side).dropRun =
          some
            (match (s.asm.get side).dropRun with
            | none => { first := slot.position, last := slot.position, count := 1 }
            | some d => { first := d.first, last := slot.position, count := min 65535 (d.count + 1) })
        ∧ t.store = s.store.adding (s.missRecords side slot))
    ∧ t.ports = (if s.missRecords side slot = [] then s.ports else s.ports.all PortState.withHeadChange)
    ∧ t.pos = s.pos ∧ t.eng = s.eng ∧ t.lanes = s.lanes ∧ t.marks = s.marks ∧ t.runState = s.runState ∧ t.now = s.now
    ∧ t.pending = s.pending ∧ t.freeDraws = s.freeDraws

/-- R42: t is what s becomes when these slots of the side, the oldest first, close one after the other, each closure complete
before the next, and `left` are the slots behind them. -/
def State.linesClosed (side : Side) (left : List Slot) : List Slot → State → State → Prop
  | [], s, t => t = s
  | slot :: more, s, t => ∃ u, s.lineClosed u side slot (more ++ left) ∧ State.linesClosed side left more u t

/-! ### Opening and filling a slot -/

/-- R38, R40: t is what s becomes when an issued trigger reaches the assembler of a side: a side without an enabled head opens no
slot; one that holds four slots first closes its oldest and the READY slots that then stand at the head of the order; the new slot
joins behind the others. -/
def State.slotOpened (s t : State) (side : Side) (line : LineNo) (trigger : Position) : Prop :=
  let slots := (s.asm.get side).slots
  let isNew := fun (u : State) (slot : Slot) =>
    slot.line = line ∧ slot.position = trigger - BitVec.ofNat 32 (s.pos.offset.get side)
      ∧ slot.deadline = s.now + (s.asm.get side).headWait ∧ slot.ready = false
      ∧ ∀ h : HeadId,
        slot.contributions[h] = none ∧ (h ∈ slot.expected ↔ s.headOn side h = true ∧ (u.head h).state = .live)
          ∧ (h ∈ slot.absent ↔ s.headOn side h = true ∧ (u.head h).state = .absent)
  let joinedBy := fun (u : State) (slot : Slot) =>
    { u with asm := u.asm.set side { (u.asm.get side) with slots := (u.asm.get side).slots ++ [slot] } }
  (s.hasHead side = false → t = s)
    ∧ (s.hasHead side = true → slots.length < 4 → ∃ slot, isNew s slot ∧ t = joinedBy s slot)
    ∧ ∀ oldest more, s.hasHead side = true → slots = oldest :: more → more.length = 3 →
      ∃ u slot,
        State.linesClosed side (more.dropWhile (·.ready)) (oldest :: more.takeWhile (·.ready)) s u
          ∧ isNew u slot ∧ t = joinedBy u slot

/-- R20 to R24: these bytes of a packet, with a header that is clean (`fixed` is 0) or corrected (`fixed` is 1) and the fields
`header`, are accepted at head h for the open slot `slot` of its side; `data` is what follows the check byte. -/
def State.accepts (s : State) (h : HeadId) (bytes : List Byte) (header : List Bool) (fixed : Counter) (data : List Byte)
    (before : List Slot) (slot : Slot) (after : List Slot) : Prop :=
  let hd := readHeader header
  (s.runState = .inspecting ∨ s.runState = .stopping) ∧ ((s.head h).state = .live ∨ (s.head h).state = .mute)
    ∧ (∃ b0 b1 b2 b3 b4 check : Byte,
      bytes = b0 :: b1 :: b2 :: b3 :: b4 :: check :: data
        ∧ let received := checkHeader (bitsOf b0 ++ bitsOf b1 ++ bitsOf b2 ++ bitsOf b3 ++ bitsOf b4) check
          (received = .clean header ∧ fixed = 0) ∨ (received = .corrected header ∧ fixed = 1))
    ∧ hd.kind = 1 ∧ hd.headId = h.val ∧ 1 ≤ hd.pixelCount ∧ hd.pixelCount ≤ 4096
    ∧ (s.asm.get (s.head h).geometry.side).slots = before ++ slot :: after ∧ slot.line = hd.line
    ∧ (∀ x ∈ before, x.line ≠ hd.line) ∧ slot.contributions[h] = none

/-- R39: a slot that a head's contribution has joined; it is READY if it was, or if all the heads it expects, one at least, have
now contributed. -/
def Slot.joinedBy (slot : Slot) (h : HeadId) (c : Contribution) : Slot :=
  { slot with
    contributions := slot.contributions.set h (some c)
    ready :=
      slot.ready
        || (!slot.expected.isEmpty && slot.expected.all fun g => decide (g = h) || slot.contributions[g].isSome) }

/-- R24 to R26, R32, R34, R35: the counters of head h count an accepted packet, a MUTE head returns to LIVE with its record, and
these are the slots of its side. -/
def State.joined (s : State) (h : HeadId) (fixed : Counter) (c : Contribution) (slots : List Slot) : State :=
  { s with
    heads :=
      s.heads.set h
        { (s.head h) with
          state := .live
          misses := if (s.head h).state = .mute then 0 else (s.head h).misses
          counters :=
            { (s.head h).counters with
              corrected := (s.head h).counters.corrected + fixed
              accepted := (s.head h).counters.accepted + 1
              crc := if c.mark = .crc then (s.head h).counters.crc + 1 else (s.head h).counters.crc } }
    ports := if (s.head h).state = .mute then s.ports.all PortState.withHeadChange else s.ports
    store :=
      if (s.head h).state = .mute then
        s.store.adding
          [plainOffer (.head h)
            { side := some (s.head h).geometry.side, lane := none, position := s.pos.web,
              content := .headState h .mute .live .packet } none]
      else s.store
    asm :=
      s.asm.set (s.head h).geometry.side { (s.asm.get (s.head h).geometry.side) with slots := slots } }

/-! ### The records of closings -/

/-- R101 to R104: the PINHOLE records of blobs that all close with this cause (none of them LARGE), oldest first, under a bank and
a recipe snapshot. -/
def pinholeRecords (side : Side) (bank : LaneBank) (recipes : Recipes) (truncated mapChange : Bool) (blobs : List Blob) :
    List Offer :=
  (blobs.filter fun x => decide (recipes[bank[x.lane].recipe].minArea ≤ x.area)).map fun x =>
    plainOffer (.engine side)
      { side := some side, lane := some x.lane, position := x.firstPos,
        content :=
          .pinhole x.lastPos x.firstColumn x.lastColumn x.area x.peak x.lines
            { merged := x.merged, large := false, truncated := truncated, mapChange := mapChange } bank[x.lane].marker }
      (some recipes[bank[x.lane].recipe].markPinhole)

/-- R121, R124, R125: the STREAK_CLOSE records of the streaks of a side, in ascending bin index, each of the streak table entry its
bin owns. -/
def Engine.streakCloseRecords (e : Engine) (side : Side) (bank : LaneBank) (reason : CloseReason) : List Offer :=
  (e.bins.filter fun jb => decide (jb.2.state = .streak)).filterMap fun jb =>
    (e.streaks.find? fun x => x.bin = jb.1).map fun entry =>
      plainOffer (.engine side)
        { side := some side, lane := some entry.lane, position := jb.2.last,
          content :=
            .streakClose
              { bin := jb.1, firstColumn := jb.1 * e.binWidth, polarity := entry.sign, start := entry.start,
                length := jb.2.length, peakGrey := jb.2.peak.tdiv 16, marker := bank[entry.lane].marker }
              jb.2.last reason }
        none

/-- R85, R86: the TEACH_ABORTED record of a running teach. -/
def Engine.abortRecords (e : Engine) (side : Side) (reason : AbortReason) (position : Position) : List Offer :=
  match e.teach with
  | none => []
  | some k =>
    [plainOffer (.engine side)
      { side := some side, lane := none, position := position, content := .teachAborted reason k.n k.taken } none]

/-- R67, R70: the records of the arrival entries that a take reaches, in their order: each its SPLICE_ARRIVED record; behind that of
the first attached one, while the side still waits for its switch, the records `change` of its changeover; and behind the first
entry the records `abort` of a running teach. -/
def arrivalRecords (side : Side) (position : Position) (change : List Offer) :
    (waits : Bool) → (abort : List Offer) → List ArrivalEntry → List Offer
  | _, _, [] => []
  | waits, abort, x :: rest =>
    [plainOffer (.engine side)
        { side := some side, lane := none, position := x.arrival,
          content := .spliceArrived x.capture position (x.attached && waits) } none]
      ++ (if x.attached && waits then change else [])
      ++ abort ++ arrivalRecords side position change (waits && !x.attached) [] rest

/-- Records of a step of START, STOP or the end of drain (R164 to R167). -/
def ofStep (step : EventStep) (offers : List Offer) : List Offer := offers.map fun o => { o with step := some step }

/-- R166, R167: the place of a record among the RUN record of a STOP that ends the drain directly, the steps of the end of drain,
and its RUN record. -/
def EventStep.drainPlace : EventStep → Option Nat
  | .startRecords => none
  | .startRun => none
  | .stopRecords => none
  | .stopRun => none
  | .stopRunIdle => some 0
  | .drainBlobs => some 1
  | .drainStreaks => some 2
  | .drainCoverage => some 4
  | .drainTeach => some 5
  | .drainRun => some 7

/-! ### The delivered record -/

/-- R174: a lane or marker index, 0xFF for NONE. -/
def indexByte {n : Nat} : Option (Fin n) → Byte
  | none => 0xFF
  | some i => BitVec.ofNat 8 i.val

/-- R171: the byte of a run state. -/
def runStateByte : RunState → Byte
  | .init => 0
  | .standby => 1
  | .inspecting => 2
  | .stopping => 3

/-- R171: the byte of a head state. -/
def headStateByte : HeadState → Byte
  | .off => 0
  | .absent => 1
  | .live => 2
  | .mute => 3

/-- R174: bytes 12 to 30 of a streak record. -/
def streakBytes (f : StreakFields) (stop : List Byte) (reason : Byte) : List Byte :=
  bytes4 f.start.toNat ++ stop ++ bytes2 f.bin ++ bytes2 f.firstColumn
    ++ [match f.polarity with | .light => 0 | .dark => 1, reason] ++ bytes2 f.length
    ++ bytes2 (BitVec.ofInt 16 f.peakGrey).toNat ++ [indexByte f.marker]

/-- R174: bytes 12 to 25 of a mark record. -/
def markBytes (f : MarkFields) (flags : Byte) (mergeCount : Nat) : List Byte :=
  [BitVec.ofNat 8 f.marker.val, flags,
      match f.firstKind with | none => 0 | some .pinhole => 1 | some .streakOpen => 2 | some .streakContinue => 3, 0]
    ++ (match f.source with | none => [0, 0, 0, 0] | some q => bytes4 q.toNat) ++ bytes4 f.firePos.toNat
    ++ bytes2 mergeCount

/-- R174: the presence byte of a mark record. -/
def markPresence (f : MarkFields) : Byte :=
  (if f.source.isSome then 1 else 0) + if f.firstKind.isSome then 2 else 0

/-- R174: the kind code, the presence byte and the kind fields of a record; the unused bytes behind them are 0. -/
def Content.layout : Content → Byte × Byte × List Byte
  | .pinhole last fc lc area peak lines flags marker =>
    (0x01, 0,
      bytes4 last.toNat ++ bytes2 fc ++ bytes2 lc ++ bytes2 area
        ++ [BitVec.ofNat 8 peak,
          (if flags.merged then 1 else 0) + (if flags.large then 2 else 0) + (if flags.truncated then 4 else 0)
            + if flags.mapChange then 8 else 0]
        ++ bytes2 lines ++ [indexByte marker])
  | .streakOpen f => (0x02, 0, streakBytes f [0, 0, 0, 0] 0)
  | .streakContinue f stop => (0x03, 1, streakBytes f (bytes4 stop.toNat) 0)
  | .streakClose f stop reason =>
    (0x04, 3, streakBytes f (bytes4 stop.toNat) (match reason with | .ended => 0 | .stop => 1 | .mapChange => 2))
  | .blind last head cause count =>
    (0x10, 0,
      bytes4 last.toNat
        ++ [BitVec.ofNat 8 head.val, match cause with | .absent => 0 | .missing => 1 | .crc => 2 | .short => 3]
        ++ bytes2 count)
  | .dropped last count => (0x11, 0, bytes4 last.toNat ++ bytes2 count)
  | .skipped last count preceding => (0x12, 0, bytes4 last.toNat ++ bytes2 count ++ bytes2 preceding.toNat)
  | .fired f mergeCount extended forced =>
    (0x20, markPresence f, markBytes f ((if extended then 1 else 0) + if forced then 2 else 0) mergeCount)
  | .suppressed f mergeCount => (0x21, markPresence f, markBytes f 0 mergeCount)
  | .late f => (0x22, markPresence f, markBytes f 0 0)
  | .lost f => (0x23, markPresence f, markBytes f 0 0)
  | .unconfirmed f => (0x24, markPresence f, markBytes f 0 0)
  | .run former new port =>
    (0x30, if port.isSome then 1 else 0,
      [runStateByte former, runStateByte new, match port with | none => 0 | some .a => 0 | some .b => 1 | some .c => 2])
  | .splice previous arrival =>
    (0x31, if arrival.isSome then 1 else 0,
      bytes4 previous.toNat ++ match arrival with | none => [0, 0, 0, 0] | some q => bytes4 q.toNat)
  | .spliceArrived capture position applied =>
    (0x32, 0, bytes4 capture.toNat ++ bytes4 position.toNat ++ [boolByte applied])
  | .bankSwitched bank mode =>
    (0x33, 0, [bankByte bank, match mode with | .now => 0 | .atPosition => 1 | .atSplice => 2])
  | .teachDone n target taught untaught =>
    (0x34, 0, bytes2 n ++ [BitVec.ofNat 8 target, 0] ++ bytes2 taught ++ bytes2 untaught)
  | .teachAborted reason n taken =>
    (0x35, 0, [match reason with | .abort => 0 | .stop => 1 | .splice => 2, 0] ++ bytes2 n ++ bytes2 taken)
  | .encoderFault highWater => (0x36, 0, bytes4 highWater.toNat)
  | .headState head former new cause =>
    (0x37, 0,
      [BitVec.ofNat 8 head.val, headStateByte former, headStateByte new,
        match cause with
        | .setHead => 0 | .linkUp => 1 | .linkDown => 2 | .packet => 3 | .misses => 4 | .start => 5])
  | .overflowRuns count firstColumn => (0x40, 0, [0, 0] ++ bytes2 count ++ bytes2 firstColumn)
  | .overflowBlobs count firstColumn => (0x40, 0, [1, 0] ++ bytes2 count ++ bytes2 firstColumn)
  | .overflowStreaks bin sign start =>
    (0x40, 0, [2, 0] ++ bytes2 bin ++ [match sign with | .light => 0 | .dark => 1, 0, 0, 0] ++ bytes4 start.toNat)
  | .overflowSplices capture => (0x40, 0, [3, 0, 0, 0, 0, 0, 0, 0] ++ bytes4 capture.toNat)

/-! ### Values after a reset, block by block -/

/-- R18: the position unit after power-on and after the RESET pin. -/
def PositionUnit.hasResetValues (u : PositionUnit) (encA encB : Bool) : Prop :=
  u.web = 0 ∧ u.highWater = 0 ∧ u.encA = encA ∧ u.encB = encB ∧ u.encoderFault = false ∧ u.pitch = 16
    ∧ u.pendingPitch = none ∧ u.divider = 0 ∧ u.lineNumber = 0 ∧ u.holdoff = 0 ∧ u.sinceTrigger = 65535
    ∧ u.skipped = none ∧ u.spliceCapture = 0 ∧ u.prevSpliceCapture = 0 ∧ u.spliceDistance = 0 ∧ u.offset.top = 0
    ∧ u.offset.bottom = 0

/-- R37: head receiver h after power-on and after the RESET pin. -/
def Head.hasResetValues (r : Head) (h : HeadId) : Prop :=
  r.geometry.enabled = false ∧ r.geometry.side = (if h.val < 4 then .top else .bottom) ∧ r.geometry.windowStart = 0
    ∧ r.geometry.windowWidth = 4096 ∧ r.geometry.columnOrigin = 4096 * (h.val % 4)
    ∧ r.geometry.direction = .ascending ∧ r.state = .off ∧ r.linkUp = false ∧ r.misses = 0
    ∧ r.counters.accepted = 0 ∧ r.counters.corrected = 0 ∧ r.counters.uncorrectable = 0 ∧ r.counters.crc = 0
    ∧ r.counters.late = 0 ∧ r.counters.future = 0 ∧ r.counters.badHeader = 0

/-- R52: a line assembler after power-on and after the RESET pin. -/
def Assembler.hasResetValues (a : Assembler) : Prop :=
  a.slots = [] ∧ a.headWait = 5000 ∧ a.queue = [] ∧ (∀ h : HeadId, a.blindRuns[h] = none) ∧ a.dropRun = none

/-- R55: a recipe at power-on. -/
def Recipe.hasPowerOnValues (r : Recipe) : Prop :=
  r.pinThreshold = 48 ∧ r.minArea = 4 ∧ r.gapLines = 1 ∧ r.maxBlobLines = 2000 ∧ r.streakOn = 6 ∧ r.streakOff = 3
    ∧ r.shift = 4 ∧ r.minStreakLines = 200 ∧ r.reportLines = 0 ∧ r.lightEnable = true ∧ r.darkEnable = true
    ∧ r.markPinhole = true ∧ r.markLarge = false ∧ r.markStreakOpen = true ∧ r.markStreakContinue = false

/-- R56: lane i at power-on. -/
def LaneRecord.hasPowerOnValues (r : LaneRecord) (i : LaneId) : Prop :=
  r.enabled = false ∧ r.spanFirst = 1024 * i.val ∧ r.spanLast = 1024 * i.val + 1023 ∧ r.coatedFirst = 1024 * i.val
    ∧ r.coatedLast = 1024 * i.val + 1023 ∧ r.recipe = 0 ∧ r.marker = none

/-- R69: what the lane map unit loses at the RESET pin. -/
def LaneMap.hasResetValues (l : LaneMap) : Prop :=
  l.active.top = .a ∧ l.active.bottom = .a ∧ l.switch = none ∧ l.arrivals.top = [] ∧ l.arrivals.bottom = []

/-- R87, R106, R126: what a side engine loses at the RESET pin. -/
def Engine.hasResetValues (e : Engine) : Prop :=
  e.inFlight = none ∧ e.held = [] ∧ e.snapshot = none ∧ e.teach = none ∧ e.recordList = [] ∧ e.blobs = []
    ∧ e.runList = [] ∧ e.runsDropped = 0 ∧ e.blobDrops = 0 ∧ e.streaks = []
    ∧ ∀ j, (e.bin j).state = .quiet ∧ (e.bin j).s = 0 ∧ (e.bin j).waiting = false

/-- R134, R139: the store at a reset. -/
def Store.hasResetValues (t : Store) : Prop :=
  t.records = [] ∧ t.nextSeq = 0 ∧ t.oldestSeq = 0 ∧ t.waiting = []
    ∧ t.rotation =
      [.positionUnit, .head 0, .head 1, .head 2, .head 3, .head 4, .head 5, .head 6, .head 7, .assembler .top,
        .assembler .bottom, .engine .top, .engine .bottom, .laneMap, .marks, .runControl]
    ∧ ∀ p : Port,
      t.reading.get p =
        { cursor := 0, pending := 0, lost := 0, trigger := 1, staleTime := 0,
          filter := { defect := true, coverage := true, mark := true, event := true, overflow := true } }

/-- R153: what a marker loses at the RESET pin. -/
def Marker.hasResetValues (m : Marker) : Prop :=
  m.output = .idle ∧ m.pulseEnd = none ∧ m.window = none ∧ m.capture = 0 ∧ m.prevCapture = 0

/-- R162: a port from power-on and at the RESET pin, where a transfer in progress is abandoned. -/
def PortState.hasResetValues (c : PortState) : Prop :=
  c.phase = .idle ∧ c.held = none
    ∧ c.raised =
      { portFault := false, storeGap := false, runChange := false, headChange := false, markTrouble := false,
        recordsStale := false }
    ∧ c.faultCause = none ∧ c.faultCount = 0
    ∧ c.enables =
      { portFault := false, storeGap := false, runChange := false, headChange := false, markTrouble := false,
        recordsReady := false, recordsStale := false }
    ∧ c.staleTimer = none ∧ c.shownStatus = none

/-- What every kind of reset leaves in each block, the retained tables apart (R18, R37, R52, R69, R87, R106, R126, R139,
R153, R162). -/
def State.hasResetValues (s : State) (encA encB : Bool) : Prop :=
  s.pos.hasResetValues encA encB ∧ (∀ h : HeadId, (s.head h).hasResetValues h)
    ∧ (∀ side : Side, (s.asm.get side).hasResetValues ∧ (s.eng.get side).hasResetValues) ∧ s.lanes.hasResetValues
    ∧ s.store.hasResetValues ∧ s.marks.orders = [] ∧ (∀ k : MarkerId, (s.marker k).hasResetValues)
    ∧ ∀ p : Port, (s.ports.get p).hasResetValues

/-- R55, R56, R77, R107, R140: the retained tables at power-on. -/
def State.hasPowerOnTables (s : State) : Prop :=
  (∀ i : RecipeId, s.lanes.recipes[i].hasPowerOnValues)
    ∧ (∀ (side : Side) (bank : Bank) (i : LaneId), ((s.lanes.banks.get side).get bank)[i].hasPowerOnValues i)
    ∧ (∀ (side : Side) (column : Nat),
      ((s.eng.get side).calEntry column).dark = 0 ∧ ((s.eng.get side).calEntry column).gain = 4096)
    ∧ (∀ side : Side, (s.eng.get side).binWidth = 8)
    ∧ ∀ k : MarkerId,
      (s.marker k).record =
        { distance := 0, pulseWidth := 10, mergeWindow := 0, confirmTimeout := 0, mode := .normal }

/-- R168: two states hold the same retained tables. -/
def State.sameTables (s t : State) : Prop :=
  t.lanes.recipes = s.lanes.recipes ∧ t.lanes.banks = s.lanes.banks
    ∧ (∀ side : Side,
      (t.eng.get side).cal = (s.eng.get side).cal ∧ (t.eng.get side).binWidth = (s.eng.get side).binWidth)
    ∧ ∀ k : MarkerId, (t.marker k).record = (s.marker k).record

/-! ### What a head sends -/

/-- R170: check bit ck of a header, chosen so that the coded bits whose position has bit k set have even parity. -/
def sentCheckBit (header : List Bool) (k : Nat) : Bool :=
  oddParity (((headerPositions.zip header).filter fun pb => pb.1.testBit k).map (·.2))

/-- R169, R170: the check byte a head sends with a header: bit 7 is 0, bit 6 makes the parity of all 47 coded bits even, and
bits 5 to 0 are the check bits. -/
def sentCheckByte (header : List Bool) : Byte :=
  let c : List Bool := [0, 1, 2, 3, 4, 5].map (sentCheckBit header)
  BitVec.ofNat 8
    (bitAt (sentCheckBit header 0) 0 + bitAt (sentCheckBit header 1) 1 + bitAt (sentCheckBit header 2) 2
      + bitAt (sentCheckBit header 3) 3 + bitAt (sentCheckBit header 4) 4 + bitAt (sentCheckBit header 5) 5
      + bitAt (oddParity (header ++ c)) 6)

/-- A header with its bit i inverted. -/
def flipHeader (header : List Bool) (i : Nat) : List Bool := header.modify i not

/-- A check byte with its bit k inverted. -/
def flipCheck (check : Byte) (k : Nat) : Byte := check ^^^ (1#8 <<< k)

/-! ### Relations the manual says always hold -/

/-- R127: at most 2048 records, with consecutive sequence numbers from the oldest sequence, and the next sequence behind the
newest. -/
def Store.consecutive (t : Store) : Prop :=
  t.records.length ≤ 2048 ∧ t.nextSeq = t.oldestSeq + BitVec.ofNat 32 t.records.length
    ∧ ∀ i (h : i < t.records.length), t.records[i].seq = t.oldestSeq + BitVec.ofNat 32 i

/-- R130, R134: a port's cursor lies from the oldest to the next sequence, and its pending count is the number of records
held at or ahead of the cursor whose class is in its filter. -/
def Store.countsTrue (t : Store) : Prop :=
  ∀ p : Port,
    ((t.reading.get p).cursor - t.oldestSeq).toNat ≤ t.records.length
      ∧ (t.reading.get p).pending =
        (t.records.filter fun x =>
          atOrAhead x.seq (t.reading.get p).cursor
            && (t.reading.get p).filter.has x.draft.content.recordClass).length

/-- R40, R45, R66, R91, R119, R143: the tables hold no more than they can. -/
def State.withinCapacity (s : State) : Prop :=
  (∀ side : Side,
      (s.asm.get side).slots.length ≤ 4 ∧ (s.asm.get side).queue.length ≤ 4
        ∧ (s.lanes.arrivals.get side).length ≤ 4 ∧ (s.eng.get side).blobs.length ≤ 128
        ∧ (s.eng.get side).streaks.length ≤ 64)
    ∧ s.marks.orders.length ≤ 64

/-- R5: the web position is never ahead of H, and H is never more than 2^30 counts ahead of it. -/
def State.webBehindHighWater (s : State) : Prop := (s.pos.highWater - s.pos.web).toNat ≤ 2 ^ 30

/-- R77, R83: a side's calibration table keeps its canonical form, and every entry its ranges. -/
def Engine.calibrationInRange (e : Engine) : Prop :=
  sparseWf CalEntry.unity e.cal = true ∧ ∀ c ∈ e.cal, c.2.dark ≤ 255 ∧ c.2.gain ≤ 8191

/-- R112: every accumulator, and every peak, lies in -4080 to 4080. -/
def Engine.accumulatorsInRange (e : Engine) : Prop :=
  ∀ jb ∈ e.bins, -4080 ≤ jb.2.s ∧ jb.2.s ≤ 4080 ∧ -4080 ≤ jb.2.peak ∧ jb.2.peak ≤ 4080

/-- R115, R119: the bin array keeps its canonical form, and every bin in STREAK owns an entry of the streak table. -/
def Engine.streaksOwned (e : Engine) : Prop :=
  sparseWf (Bin.quiet 0) e.bins = true
    ∧ ∀ jb ∈ e.bins, jb.2.state = .streak → ∃ entry ∈ e.streaks, entry.bin = jb.1

/-- R143: the orders stand in ascending distance ahead of the web position, those with the same fire position in ascending marker
index, and each is ahead of the web position. -/
def State.scheduleInOrder (s : State) : Prop :=
  (s.marks.orders.Pairwise fun x y =>
      (x.firePos - s.pos.web).toNat < (y.firePos - s.pos.web).toNat
        ∨ (x.firePos = y.firePos ∧ x.marker < y.marker))
    ∧ ∀ o ∈ s.marks.orders, ahead o.firePos s.pos.web = true

/-- R143, R146: no two orders of one marker stand within the marker's merge window of each other. -/
def State.ordersApart (s : State) : Prop :=
  s.marks.orders.Pairwise fun x y =>
    x.marker = y.marker → within (s.marker x.marker).record.mergeWindow x.firePos y.firePos = false

/-- R30, R31: a head is OFF exactly when it is not enabled, ABSENT only with its link DOWN, and LIVE or MUTE only with its
link UP. -/
def Head.stateFits (r : Head) : Prop :=
  (r.state = .off ↔ r.geometry.enabled = false) ∧ (r.state = .absent → r.linkUp = false)
    ∧ (r.state = .live ∨ r.state = .mute → r.linkUp = true)

/-- R51, R71, R75, R86, R103, R125: an engine holds commands only while a line is in flight; outside INSPECTING and STOPPING no
slot is open, no line waits or is in flight, and no blob, streak, candidate or teach stands. -/
def State.restsOutsideRuns (s : State) : Prop :=
  ∀ side : Side,
    ((s.eng.get side).inFlight = none → (s.eng.get side).held = [])
      ∧ (s.runState = .init ∨ s.runState = .standby →
        (s.asm.get side).slots = [] ∧ (s.asm.get side).queue = [] ∧ (s.eng.get side).inFlight = none
          ∧ (s.eng.get side).blobs = [] ∧ (s.eng.get side).streaks = [] ∧ (s.eng.get side).bins = []
          ∧ (s.eng.get side).teach = none)

/-- R155, R157: a port holds a response exactly in RESPONSE_HELD. -/
def PortState.responseFits (c : PortState) : Prop := c.phase = .responseHeld ↔ c.held.isSome = true

/-- R142, R149: an output is PULSING exactly when it has a pulse end, and a marker whose output is FORCED is in FORCE. -/
def Marker.outputFits (m : Marker) : Prop :=
  (m.output = .pulsing ↔ m.pulseEnd.isSome = true) ∧ (m.output = .forced → m.record.mode = .force)

end Machine

end Sys2Proof
end

