-- ==== Sys2Proof/Certificates/Slice0/Obligations.lean ====
section
/-! DEFINITION. The statements for the provers. Each docstring names the rule of spec/ it comes from; `exec c s = .next t` says
that the command c, taken in the state s, completes in the state t. An equation for the whole next state is also the frame:
what its right side does not change is unchanged. -/

open Sys2Proof Sys2Proof.Machine

/-! ### The part as a whole -/

/-- A step takes the command at the front of the queue (95_what_each_step_holds.md: each step whole and indivisible; the
queue is log 1). -/
def Obligations.StepTakesFrontCommand : Prop :=
  ∀ (s : State) (c : Instr) (rest : List Instr), s.pending = c :: rest → step s = exec c { s with pending := rest }

/-- With no command waiting one microsecond passes (log 3, the model's choice); the time since trigger runs on and saturates
(R9). -/
def Obligations.IdleStepLetsOneMicrosecondPass : Prop :=
  ∀ s : State, s.pending = [] →
    step s =
      .next { s with now := s.now + 1, pos := { s.pos with sinceTrigger := min 65535 (s.pos.sinceTrigger + 1) } }

/-- The part answers every command, and a command leaves the waiting commands as they are (log 1). -/
def Obligations.EveryCommandCompletesAndLeavesQueue : Prop :=
  ∀ (c : Instr) (s : State), ∃ t, exec c s = .next t ∧ t.pending = s.pending

/-- R18, R37, R52, R69, R87, R106, R126, R139, R153, R162, R163: the state after power-on. It meets every invariant that the
statements below say a step keeps. The levels on ENC_A and ENC_B of State.reset, both low, are the model's choice (log 5). -/
def Obligations.ResetStateHoldsPowerOnValues : Prop :=
  State.reset.runState = .init ∧ State.reset.hasResetValues false false ∧ State.reset.hasPowerOnTables
    ∧ State.reset.pending = [] ∧ State.reset.store.consecutive ∧ State.reset.store.countsTrue
    ∧ State.reset.withinCapacity ∧ State.reset.restsOutsideRuns ∧ State.reset.webBehindHighWater
    ∧ State.reset.ordersApart ∧ State.reset.scheduleInOrder
    ∧ (∀ side : Side,
      (State.reset.eng.get side).calibrationInRange ∧ (State.reset.eng.get side).accumulatorsInRange
        ∧ (State.reset.eng.get side).streaksOwned)
    ∧ (∀ h : HeadId, (State.reset.head h).stateFits) ∧ (∀ p : Port, (State.reset.ports.get p).responseFits)
    ∧ ∀ k : MarkerId, (State.reset.marker k).outputFits

/-- R163, R168: power-on, and the RESET pin taken in INIT, enter INIT with power-on values throughout; the RESET pin taken in
another run state keeps the retained tables and enters STANDBY. -/
def Obligations.ResetsSetEveryBlock : Prop :=
  ∀ (s : State) (encA encB : Bool),
    (∃ t, exec (.powerOn encA encB) s = .next t ∧ t.runState = .init ∧ t.hasResetValues encA encB ∧ t.hasPowerOnTables
        ∧ t.pending = s.pending)
      ∧ (s.runState = .init → ∃ t, exec (.resetPin encA encB) s = .next t ∧ t.runState = .init
        ∧ t.hasResetValues encA encB ∧ t.hasPowerOnTables ∧ t.pending = s.pending)
      ∧ (s.runState ≠ .init → ∃ t, exec (.resetPin encA encB) s = .next t ∧ t.runState = .standby
        ∧ t.hasResetValues encA encB ∧ s.sameTables t ∧ t.pending = s.pending)

/-- R162, R163: at the end of INIT the ports take their state, the run state becomes STANDBY with a RUN record, and RUN_CHANGE
is raised at each port. A transfer that began in INIT has shifted out NOT_READY (R154); whether there is one is free: the statement
holds for every value (log 6). (The bytes last shifted out are the model's own, log 20. That the store, with the ports' lost counts, stays
while the notices raised in INIT go is the model's reading, log 27.) -/
def Obligations.InitEndEntersStandby : Prop :=
  ∀ s : State, s.runState = .init →
    let port := fun (p : Port) (draw : Nat) =>
      ({ phase := .idle
         held := none
         raised :=
          { portFault := false, storeGap := false, runChange := true, headChange := false, markTrouble := false,
            recordsStale := false }
         faultCause := none
         faultCount := 0
         enables :=
          { portFault := false, storeGap := false, runChange := false, headChange := false, markTrouble := false,
            recordsReady := false, recordsStale := false }
         staleTimer := none
         dataOut := (s.ports.get p).dataOut
         shownStatus := (s.ports.get p).shownStatus.or (if Config.transferBegun draw then some 0xA0 else none) } : PortState)
    exec .initEnd s =
      .next
        { s with
          runState := .standby
          freeDraws := s.freeDraws + 3
          ports :=
            { a := port .a s.freeDraws, b := port .b (s.freeDraws + 1), c := port .c (s.freeDraws + 2) }
          store :=
            s.store.adding
              [plainOffer .runControl
                { side := none, lane := none, position := s.pos.web, content := .run .init .standby none } none] }

/-- An event whose condition does not hold spells no event of the part and changes nothing (log 2, the model's choice): the
end of INIT outside INIT, a take without a line or with the engine busy, the end of an operation not in flight or with
records left, an append with nothing waiting, an expiry of what does not run, a wait expiry of no open slot, an end of drain
that is not due, an encoder edge without a change, a code that names a command, and a whole frame. -/
def Obligations.EventsThatDoNotOccurChangeNothing : Prop :=
  ∀ s : State,
    (s.runState ≠ .init → exec .initEnd s = .next s)
      ∧ (∀ side,
        (s.asm.get side).queue = [] ∨ (s.eng.get side).inFlight.isSome = true ∨ (s.eng.get side).held ≠ [] →
          exec (.lineTake side) s = .next s)
      ∧ (∀ side, (s.eng.get side).inFlight = none ∨ (s.eng.get side).recordList ≠ [] →
        exec (.lineOperationEnd side) s = .next s)
      ∧ (s.store.waiting = [] → (∀ side, (s.eng.get side).recordList = []) → exec .recordAppend s = .next s)
      ∧ (∀ k, (s.marker k).pulseEnd = none → exec (.pulseEnd k) s = .next s)
      ∧ (∀ k, (s.marker k).window = none → exec (.confirmWindowExpiry k) s = .next s)
      ∧ (∀ p, (s.ports.get p).staleTimer = none → exec (.staleTimerExpiry p) s = .next s)
      ∧ (∀ side line, (∀ slot ∈ (s.asm.get side).slots, slot.line ≠ line) →
        exec (.waitExpiry side line) s = .next s)
      ∧ (s.runState ≠ .stopping ∨ (∃ side, (s.asm.get side).slots ≠ [] ∨ (s.asm.get side).queue ≠ []
          ∨ (s.eng.get side).inFlight.isSome = true) → exec .drainEnd s = .next s)
      ∧ exec (.encoderEdge s.pos.encA s.pos.encB) s = .next s
      ∧ (∀ p code body, code ∈ namedCodes ∨ code = 0x00 → exec (.unknownCommand p code body) s = .next s)
      ∧ ∀ p code rest, isBadFrame code rest = false → exec (.badFrame p code rest) s = .next s

/-! ### Position unit -/

/-- R1, R4, R148: a forward count moves the web position on by one, H with it when the new position is ahead of H, and takes
the orders at the new position out of the schedule. It changes no engine, no lane map, no held record and no setting. -/
def Obligations.ForwardCountMovesWeb : Prop :=
  ∀ (s : State) (a b : Bool), ((s.pos.encA, s.pos.encB), a, b) ∈ forwardEdges →
    ∃ t, exec (.encoderEdge a b) s = .next t
      ∧ t.pos.web = s.pos.web + 1 ∧ t.pos.encA = a ∧ t.pos.encB = b
      ∧ t.pos.highWater = (if ahead (s.pos.web + 1) s.pos.highWater then s.pos.web + 1 else s.pos.highWater)
      ∧ t.pos.encoderFault = s.pos.encoderFault ∧ t.pos.holdoff = s.pos.holdoff
      ∧ t.pos.spliceCapture = s.pos.spliceCapture ∧ t.pos.prevSpliceCapture = s.pos.prevSpliceCapture
      ∧ t.pos.spliceDistance = s.pos.spliceDistance ∧ t.pos.offset = s.pos.offset
      ∧ t.marks.orders = s.marks.orders.filter (fun o => o.firePos ≠ s.pos.web + 1)
      ∧ t.eng = s.eng ∧ t.lanes = s.lanes ∧ t.runState = s.runState ∧ t.now = s.now
      ∧ t.store.records = s.store.records ∧ t.store.reading = s.store.reading ∧ s.store.waiting <+: t.store.waiting
      ∧ (∀ h : HeadId, (t.head h).geometry = (s.head h).geometry ∧ (t.head h).linkUp = (s.head h).linkUp
        ∧ (t.head h).counters = (s.head h).counters)
      ∧ ∀ p : Port, (t.ports.get p).phase = (s.ports.get p).phase ∧ (t.ports.get p).held = (s.ports.get p).held

/-- R4, R7: a forward count that no order waits for changes the position unit alone in the rewound zone, outside INSPECTING,
and while the divider has counts left; the divider counts advancing counts in INSPECTING alone. -/
def Obligations.DividerCountsAdvancingCountsAlone : Prop :=
  ∀ (s : State) (a b : Bool), ((s.pos.encA, s.pos.encB), a, b) ∈ forwardEdges →
    (∀ o ∈ s.marks.orders, o.firePos ≠ s.pos.web + 1) →
    (ahead (s.pos.web + 1) s.pos.highWater = false →
      exec (.encoderEdge a b) s = .next { s with pos := { s.pos with web := s.pos.web + 1, encA := a, encB := b } })
      ∧ (ahead (s.pos.web + 1) s.pos.highWater = true → s.runState ≠ .inspecting →
        exec (.encoderEdge a b) s =
          .next
            { s with
              pos := { s.pos with web := s.pos.web + 1, highWater := s.pos.web + 1, encA := a, encB := b } })
      ∧ (ahead (s.pos.web + 1) s.pos.highWater = true → s.runState = .inspecting → 2 ≤ s.pos.divider →
        exec (.encoderEdge a b) s =
          .next
            { s with
              pos :=
                { s.pos with
                  web := s.pos.web + 1, highWater := s.pos.web + 1, encA := a, encB := b,
                  divider := s.pos.divider - 1 } })

/-- R7, R9, R11 to R13, R38, R40, R42: at an underflow the pending pitch is taken, the divider is reloaded, and the due trigger is
issued or skipped by the holdoff. An issued trigger closes the skipped run with its SKIPPED record and reaches the assemblers of TOP
and BOTTOM: each with an enabled head opens a slot, and one that holds four slots first closes its oldest by forced closure, and then
the READY slots behind it. Then the orders at the new position fire. -/
def Obligations.UnderflowIssuesOrSkipsTrigger : Prop :=
  ∀ (s : State) (a b : Bool), ((s.pos.encA, s.pos.encB), a, b) ∈ forwardEdges →
    s.runState = .inspecting → ahead (s.pos.web + 1) s.pos.highWater = true → s.pos.divider = 1 →
    (∀ side : Side, (s.asm.get side).slots.length ≤ 4) →
    (s.pos.holdoff = 0 ∨ s.pos.holdoff ≤ s.pos.sinceTrigger →
      let issued : State :=
        { s with
          pos :=
            { s.pos with
              web := s.pos.web + 1, highWater := s.pos.web + 1, encA := a, encB := b
              pitch := s.pos.pendingPitch.getD s.pos.pitch, pendingPitch := none
              divider := s.pos.pendingPitch.getD s.pos.pitch
              lineNumber := s.pos.lineNumber + 1, sinceTrigger := 0, skipped := none
              trigPulses := s.pos.trigPulses + 1 }
          store :=
            s.store.adding
              (match s.pos.skipped with
              | none => []
              | some run =>
                [plainOffer .positionUnit
                  { side := none, lane := none, position := run.first,
                    content := .skipped run.last run.count run.preceding } none]) }
      ∃ u v t, exec (.encoderEdge a b) s = .next t
        ∧ issued.slotOpened u .top (s.pos.lineNumber + 1) (s.pos.web + 1)
        ∧ u.slotOpened v .bottom (s.pos.lineNumber + 1) (s.pos.web + 1)
        ∧ ((∀ o ∈ s.marks.orders, o.firePos ≠ s.pos.web + 1) → t = v)
        ∧ t.pos = issued.pos ∧ t.asm = v.asm ∧ t.heads = v.heads ∧ t.ports = v.ports ∧ t.eng = s.eng
        ∧ t.lanes = s.lanes ∧ v.store.waiting <+: t.store.waiting
        ∧ ∀ side : Side, (t.asm.get side).slots.length ≤ 4)
      ∧ (s.pos.sinceTrigger < s.pos.holdoff → (∀ o ∈ s.marks.orders, o.firePos ≠ s.pos.web + 1) →
        exec (.encoderEdge a b) s =
          .next
            { s with
              pos :=
                { s.pos with
                  web := s.pos.web + 1, highWater := s.pos.web + 1, encA := a, encB := b
                  pitch := s.pos.pendingPitch.getD s.pos.pitch, pendingPitch := none
                  divider := s.pos.pendingPitch.getD s.pos.pitch
                  skipped :=
                    some
                      (match s.pos.skipped with
                      | none =>
                        { first := s.pos.web + 1, last := s.pos.web + 1, count := 1, preceding := s.pos.lineNumber }
                      | some run => { run with last := s.pos.web + 1, count := min 65535 (run.count + 1) }) } })

/-- R1, R5, R147: a backward count changes the web position and the held pair alone, unless it is a deep-rewind resync, which
sets H to the web position and removes every order with a LOST record and MARK_TROUBLE. -/
def Obligations.BackwardCountAndDeepRewind : Prop :=
  ∀ (s : State) (a b : Bool), ((a, b), s.pos.encA, s.pos.encB) ∈ forwardEdges →
    ((s.pos.highWater - (s.pos.web - 1)).toNat ≤ 2 ^ 30 →
      exec (.encoderEdge a b) s = .next { s with pos := { s.pos with web := s.pos.web - 1, encA := a, encB := b } })
      ∧ (2 ^ 30 < (s.pos.highWater - (s.pos.web - 1)).toNat →
        exec (.encoderEdge a b) s =
          .next
            { s with
              pos := { s.pos with web := s.pos.web - 1, highWater := s.pos.web - 1, encA := a, encB := b }
              marks := { s.marks with orders := [] }
              ports := if s.marks.orders = [] then s.ports else s.ports.all PortState.withMarkTrouble
              store :=
                s.store.adding
                  (s.marks.orders.map fun o =>
                    plainOffer .marks
                      { side := o.side, lane := o.lane, position := o.firePos,
                        content :=
                          .lost
                            { marker := o.marker, firePos := o.firePos, source := o.source, firstKind := o.firstKind } }
                      none) })

/-- R2: an edge that changes both inputs sets the encoder-fault flag, with an ENCODER_FAULT record when the flag was clear, and
changes nothing else but the held pair; power-on and the RESET pin leave the flag clear. -/
def Obligations.IllegalTransitionSetsFaultOnce : Prop :=
  ∀ s : State,
    exec (.encoderEdge (!s.pos.encA) (!s.pos.encB)) s =
        .next
          { s with
            pos := { s.pos with encA := !s.pos.encA, encB := !s.pos.encB, encoderFault := true }
            store :=
              if s.pos.encoderFault then s.store
              else
                s.store.adding
                  [plainOffer .positionUnit
                    { side := none, lane := none, position := s.pos.web, content := .encoderFault s.pos.highWater }
                    none] }
      ∧ ∀ encA encB : Bool,
        (∃ t, exec (.powerOn encA encB) s = .next t ∧ t.pos.encoderFault = false)
          ∧ ∃ t, exec (.resetPin encA encB) s = .next t ∧ t.pos.encoderFault = false

/-- R14, R15, R62, R66: a SPLICE edge updates the captures with a SPLICE record; in INSPECTING and STOPPING the splice is handed
on: it is attached to a switch that waits for one and offered to both arrival lists, a full list refusing it with an OVERFLOW
record. -/
def Obligations.SpliceEdgeCapturesAndHandsOn : Prop :=
  ∀ s : State,
    (s.runState = .init ∨ s.runState = .standby →
      exec .spliceEdge s =
        .next
          { s with
            pos := { s.pos with spliceCapture := s.pos.web, prevSpliceCapture := s.pos.spliceCapture }
            store :=
              s.store.adding
                [plainOffer .positionUnit
                  { side := none, lane := none, position := s.pos.web, content := .splice s.pos.spliceCapture none }
                  none] })
      ∧ (s.runState = .inspecting ∨ s.runState = .stopping →
        let arrival := s.pos.web + BitVec.ofNat 32 s.pos.spliceDistance
        let attaches :=
          match s.lanes.switch with
          | some w => decide (w.mode = .atSplice) && w.attached.isNone
          | none => false
        let room := fun side : Side => decide ((s.lanes.arrivals.get side).length < 4)
        let after := fun side : Side =>
          if room side then
            s.lanes.arrivals.get side ++ [{ arrival := arrival, capture := s.pos.web, attached := attaches }]
          else s.lanes.arrivals.get side
        let overflow := fun side : Side =>
          if room side then []
          else
            [plainOffer .laneMap
              { side := some side, lane := none, position := arrival, content := .overflowSplices s.pos.web } none]
        exec .spliceEdge s =
          .next
            { s with
              pos := { s.pos with spliceCapture := s.pos.web, prevSpliceCapture := s.pos.spliceCapture }
              lanes :=
                { s.lanes with
                  switch :=
                    if attaches then
                      s.lanes.switch.map fun w =>
                        { w with
                          attached := some { top := room .top, bottom := room .bottom }, position := some arrival }
                    else s.lanes.switch
                  arrivals := { top := after .top, bottom := after .bottom } }
              store :=
                s.store.adding
                  (plainOffer .positionUnit
                      { side := none, lane := none, position := s.pos.web,
                        content := .splice s.pos.spliceCapture (some arrival) } none
                    :: (overflow .top ++ overflow .bottom)) })

/-- R16, R8, R38, R171: the presence byte of SET_LINE marks six fields, pitch, holdoff, splice distance, head wait, offset TOP and
offset BOTTOM, and those present follow in this order, of 2, 2, 4, 2, 4 and 4 bytes. SET_LINE applies every present field at once, or
refuses the whole with RANGE before STATE. (A body of another length is answered LENGTH: FrameCodeAndLengthAreChecked.) -/
def Obligations.SetLineAppliesPresentFields : Prop :=
  ∀ (s : State) (p : Port) (pr p1 p0 h1 h0 d3 d2 d1 d0 w1 w0 t3 t2 t1 t0 b3 b2 b1 b0 : Byte), s.takes p →
    let has := fun i : Nat => pr.getLsbD i
    let body : List Byte :=
      pr
        :: ((if has 0 then [p1, p0] else []) ++ (if has 1 then [h1, h0] else [])
          ++ (if has 2 then [d3, d2, d1, d0] else []) ++ (if has 3 then [w1, w0] else [])
          ++ (if has 4 then [t3, t2, t1, t0] else []) ++ if has 5 then [b3, b2, b1, b0] else [])
    let inRange :=
      (has 0 = true → 1 ≤ be16 p1 p0 ∧ be16 p1 p0 ≤ 4096) ∧ (has 2 = true → be32 d3 d2 d1 d0 ≤ 16777215)
        ∧ (has 3 = true → 20 ≤ be16 w1 w0) ∧ (has 4 = true → be32 t3 t2 t1 t0 ≤ 16777215)
        ∧ (has 5 = true → be32 b3 b2 b1 b0 ≤ 16777215)
    let offsets := has 4 = true ∨ has 5 = true
    (¬inRange → exec (.setLine p body) s = .next (s.refused p body.length .range))
      ∧ (inRange → offsets → s.runState ≠ .standby →
        exec (.setLine p body) s = .next (s.refused p body.length .state))
      ∧ (inRange → (offsets → s.runState = .standby) →
        exec (.setLine p body) s =
          .next
            { s.answered p body.length { code := .ok, body := [] } with
              pos :=
                { s.pos with
                  pendingPitch := if has 0 then some (be16 p1 p0) else s.pos.pendingPitch
                  holdoff := if has 1 then be16 h1 h0 else s.pos.holdoff
                  spliceDistance := if has 2 then be32 d3 d2 d1 d0 else s.pos.spliceDistance
                  offset :=
                    { top := if has 4 then be32 t3 t2 t1 t0 else s.pos.offset.top
                      bottom := if has 5 then be32 b3 b2 b1 b0 else s.pos.offset.bottom } }
              asm :=
                { top := { s.asm.top with headWait := if has 3 then be16 w1 w0 else s.asm.top.headWait }
                  bottom := { s.asm.bottom with headWait := if has 3 then be16 w1 w0 else s.asm.bottom.headWait } } })

/-! ### Head links and line assembly -/

/-- R19, R31, R34: link events set the link state and move a head between ABSENT and LIVE or MUTE with a HEAD_STATE record and
HEAD_CHANGE at each port; an event that agrees with the link state changes nothing. -/
def Obligations.LinkEventsMoveHead : Prop :=
  ∀ (s : State) (h : HeadId),
    let report := fun (new : HeadState) (cause : HeadCause) =>
      s.store.adding
        [plainOffer (.head h)
          { side := some (s.head h).geometry.side, lane := none, position := s.pos.web,
            content := .headState h (s.head h).state new cause } none]
    ((s.head h).linkUp = true → exec (.linkUp h) s = .next s)
      ∧ ((s.head h).linkUp = false → (s.head h).state ≠ .absent →
        exec (.linkUp h) s = .next { s with heads := s.heads.set h { (s.head h) with linkUp := true } })
      ∧ ((s.head h).linkUp = false → (s.head h).state = .absent →
        exec (.linkUp h) s =
          .next
            { s with
              heads := s.heads.set h { (s.head h) with linkUp := true, state := .live, misses := 0 }
              ports := s.ports.all PortState.withHeadChange
              store := report .live .linkUp })
      ∧ ((s.head h).linkUp = false → exec (.linkDown h) s = .next s)
      ∧ ((s.head h).linkUp = true → (s.head h).state ≠ .live → (s.head h).state ≠ .mute →
        exec (.linkDown h) s = .next { s with heads := s.heads.set h { (s.head h) with linkUp := false } })
      ∧ ((s.head h).linkUp = true → (s.head h).state = .live ∨ (s.head h).state = .mute →
        exec (.linkDown h) s =
          .next
            { s with
              heads := s.heads.set h { (s.head h) with linkUp := false, state := .absent }
              ports := s.ports.all PortState.withHeadChange
              store := report .absent .linkDown })

/-- R21, R169, R170: the header check takes a header as sent, corrects any single coded bit received in error, the check bits
and the parity bit among them, finds any two uncorrectable, and ignores bit 7 of the check byte. -/
def Obligations.HeaderCodeCorrectsOneAndDetectsTwo : Prop :=
  ∀ header : List Bool, header.length = 40 →
    let check := sentCheckByte header
    checkHeader header check = .clean header
      ∧ checkHeader header (flipCheck check 7) = .clean header
      ∧ (∀ i, i < 40 → checkHeader (flipHeader header i) check = .corrected header)
      ∧ (∀ k, k < 7 → checkHeader header (flipCheck check k) = .corrected header)
      ∧ (∀ i j, i < j → j < 40 → checkHeader (flipHeader (flipHeader header i) j) check = .uncorrectable)
      ∧ (∀ i k, i < 40 → k < 7 → checkHeader (flipHeader header i) (flipCheck check k) = .uncorrectable)
      ∧ ∀ k l, k < l → l < 7 → checkHeader header (flipCheck (flipCheck check k) l) = .uncorrectable

/-- R20 to R24, R35: packets that are not accepted. Outside INSPECTING and STOPPING, or with the head neither LIVE nor MUTE, or
with its header not whole, a packet changes nothing; an uncorrectable header, bad fields, a DUPLICATE, a LATE and a FUTURE
packet count each in their counter, and a corrected header in its own. (R20 says of an aborted packet alone that it changes nothing
when it ends before its check byte; that a complete packet of fewer than 6 bytes does so is the model's choice, log 18.) -/
def Obligations.PacketsNotAcceptedOnlyCount : Prop :=
  ∀ (s : State) (h : HeadId) (bytes : List Byte),
    let inspects := s.runState = .inspecting ∨ s.runState = .stopping
    let looks := (s.head h).state = .live ∨ (s.head h).state = .mute
    let counted := fun k : HeadCounters => ({ s with heads := s.heads.set h { (s.head h) with counters := k } } : State)
    let both := fun t : State => exec (.completePacket h bytes) s = .next t ∧ exec (.abortedPacket h bytes) s = .next t
    (¬(inspects ∧ looks) → both s)
      ∧ (bytes.length < 6 → both s)
      ∧ ∀ (b0 b1 b2 b3 b4 check : Byte) (data : List Byte),
        bytes = b0 :: b1 :: b2 :: b3 :: b4 :: check :: data → inspects → looks →
        let received := checkHeader (bitsOf b0 ++ bitsOf b1 ++ bitsOf b2 ++ bitsOf b3 ++ bitsOf b4) check
        let old := (s.head h).counters
        (received = .uncorrectable → both (counted { old with uncorrectable := old.uncorrectable + 1 }))
          ∧ ∀ (header : List Bool) (fixed : Counter),
            (received = .clean header ∧ fixed = 0) ∨ (received = .corrected header ∧ fixed = 1) →
            let hd := readHeader header
            let good := hd.kind = 1 ∧ hd.headId = h.val ∧ 1 ≤ hd.pixelCount ∧ hd.pixelCount ≤ 4096
            let slot := (s.asm.get (s.head h).geometry.side).slots.find? fun x => x.line = hd.line
            (¬good →
                both (counted { old with corrected := old.corrected + fixed, badHeader := old.badHeader + 1 }))
              ∧ (good → (∃ x, slot = some x ∧ x.contributions[h].isSome = true) →
                both (counted { old with corrected := old.corrected + fixed, late := old.late + 1 }))
              ∧ (good → slot = none → ahead hd.line s.pos.lineNumber = false →
                both (counted { old with corrected := old.corrected + fixed, late := old.late + 1 }))
              ∧ (good → slot = none → ahead hd.line s.pos.lineNumber = true →
                both (counted { old with corrected := old.corrected + fixed, future := old.future + 1 }))

/-- R24 to R26, R32, R34, R35, R39, R42: a packet accepted for an open slot, whichever of the side's slots it is, that leaves the
oldest slot GATHERING joins its slot and does nothing else: the counters count, a MUTE head returns to LIVE with its record, and the
slot is READY once it was or all the heads it expects have contributed. A complete packet contributes as its payload and CRC say, an
aborted one is marked CRC. -/
def Obligations.AcceptedPacketJoinsItsSlot : Prop :=
  ∀ (s : State) (h : HeadId) (bytes : List Byte) (header : List Bool) (fixed : Counter) (data : List Byte)
    (before : List Slot) (slot : Slot) (after : List Slot),
    s.accepts h bytes header fixed data before slot after →
    let slots := fun c : Contribution => before ++ slot.joinedBy h c :: after
    let joins := fun (i : Instr) (c : Contribution) =>
      (∀ oldest, (slots c).head? = some oldest → oldest.ready = false) →
        exec i s = .next (s.joined h fixed c (slots c))
    joins (.completePacket h bytes) (completeContribution (s.head h).geometry (readHeader header).pixelCount data)
      ∧ joins (.abortedPacket h bytes) { mark := .crc, cols := [] }

/-- R39, R42 to R49: a packet, complete or aborted, of a LIVE or MUTE head, with a clean or a corrected header, that makes the oldest
open slot of its side READY joins it and closes it, and after it the READY slots behind it, each closure complete before the next. -/
def Obligations.CompletingPacketClosesLine : Prop :=
  ∀ (s : State) (h : HeadId) (bytes : List Byte) (header : List Bool) (fixed : Counter) (data : List Byte)
    (before : List Slot) (slot : Slot) (after : List Slot),
    s.accepts h bytes header fixed data before slot after →
    let side := (s.head h).geometry.side
    let slots := fun c : Contribution => before ++ slot.joinedBy h c :: after
    let closes := fun (i : Instr) (c : Contribution) =>
      (∀ oldest, (slots c).head? = some oldest → oldest.ready = true) →
        ∃ t, exec i s = .next t
          ∧ State.linesClosed side ((slots c).dropWhile (·.ready)) ((slots c).takeWhile (·.ready))
            (s.joined h fixed c (slots c)) t
    closes (.completePacket h bytes) (completeContribution (s.head h).geometry (readHeader header).pixelCount data)
      ∧ closes (.abortedPacket h bytes) { mark := .crc, cols := [] }

/-- R25, R27, R28: a complete packet whose CRC passes gives, of a consistent geometry, window pixel i (payload pixel window
start + i) on column origin + i or origin - i, as far as the payload reaches, and no other column; the contribution is SHORT
when the pixel count is less than window start + window width, and FULL otherwise. One whose CRC fails gives no column and is
marked CRC. -/
def Obligations.PayloadFallsOnWindowColumns : Prop :=
  ∀ (g : Geometry) (payload : List Byte) (hi lo : Byte), g.consistent = true →
    let c := completeContribution g payload.length (payload ++ [hi, lo])
    ((crc16 payload).toNat = 256 * hi.toNat + lo.toNat →
        c.mark = (if payload.length < g.windowStart + g.windowWidth then .short else .full)
          ∧ ∀ column value,
            (column, value) ∈ c.cols ↔
              ∃ i, i < g.windowWidth ∧ payload[g.windowStart + i]? = some value
                ∧ column = (if g.direction = .ascending then g.columnOrigin + i else g.columnOrigin - i))
      ∧ ((crc16 payload).toNat ≠ 256 * hi.toNat + lo.toNat → c = { mark := .crc, cols := [] })

/-- R29, R30, R34, R156 check 5: SET_HEAD replaces the geometry and moves the head state, after its refusals in their order. (That
the HEAD_STATE record carries the side of the new geometry is the model's choice, log 19.) -/
def Obligations.SetHeadReplacesGeometry : Prop :=
  ∀ (s : State) (p : Port) (i e sd s1 s0 w1 w0 c1 c0 d : Byte), s.takes p →
    let body := [i, e, sd, s1, s0, w1, w0, c1, c0, d]
    let start := be16 s1 s0
    let width := be16 w1 w0
    let origin := be16 c1 c0
    let fits :=
      e.toNat ≤ 1 ∧ sd.toNat ≤ 1 ∧ d.toNat ≤ 1 ∧ start ≤ 4095 ∧ 1 ≤ width ∧ width ≤ 4096 ∧ origin ≤ 16383
        ∧ start + width ≤ 4096 ∧ (d = 0 → origin + width - 1 ≤ 16383) ∧ (d = 1 → width - 1 ≤ origin)
    let g : Geometry :=
      { enabled := e = 1, side := if sd = 0 then .top else .bottom, windowStart := start, windowWidth := width,
        columnOrigin := origin, direction := if d = 0 then .ascending else .descending }
    (8 ≤ i.toNat → exec (.setHead p body) s = .next (s.refused p 10 .range))
      ∧ ∀ h : HeadId, i = BitVec.ofNat 8 h.val →
        let shares :=
          ∃ other : HeadId, other ≠ h ∧ (s.head other).geometry.enabled = true
            ∧ (s.head other).geometry.side = g.side
            ∧ ∃ column, g.spanFirst ≤ column ∧ column ≤ g.spanLast ∧ (s.head other).geometry.spanFirst ≤ column
              ∧ column ≤ (s.head other).geometry.spanLast
        let new : HeadState :=
          if e = 0 then .off
          else if (s.head h).state = .off then (if (s.head h).linkUp then .live else .absent)
          else (s.head h).state
        let misses := if new = .off ∨ ((s.head h).state = .off ∧ new = .live) then 0 else (s.head h).misses
        (s.runState ≠ .standby → exec (.setHead p body) s = .next (s.refused p 10 .state))
          ∧ (s.runState = .standby → ¬fits → exec (.setHead p body) s = .next (s.refused p 10 .range))
          ∧ (s.runState = .standby → fits → e = 1 → shares →
            exec (.setHead p body) s = .next (s.refused p 10 .overlap))
          ∧ (s.runState = .standby → fits → (e = 1 → ¬shares) →
            exec (.setHead p body) s =
              .next
                { s.answered p 10 { code := .ok, body := [] } with
                  heads := s.heads.set h { (s.head h) with geometry := g, state := new, misses := misses }
                  ports :=
                    if (s.head h).state = new then (s.answered p 10 { code := .ok, body := [] }).ports
                    else (s.answered p 10 { code := .ok, body := [] }).ports.all PortState.withHeadChange
                  store :=
                    if (s.head h).state = new then s.store
                    else
                      s.store.adding
                        [plainOffer (.head h)
                          { side := some g.side, lane := none, position := s.pos.web,
                            content := .headState h (s.head h).state new .setHead } none] })

/-- R41 to R49: the deadline of a GATHERING slot makes it READY. Behind an older GATHERING slot it then waits; as the oldest it closes,
and after it the READY slots behind it, each closure complete before the next. The deadline of a READY slot changes nothing. (The
clock is log 3 and log 4.) -/
def Obligations.WaitExpiryReadiesSlot : Prop :=
  ∀ (s : State) (side : Side) (line : LineNo) (before : List Slot) (slot : Slot) (after : List Slot),
    let a := s.asm.get side
    let slots := before ++ { slot with ready := true } :: after
    a.slots = before ++ slot :: after → (∀ x ∈ before, x.line ≠ line) → slot.line = line →
    (slot.ready = true → exec (.waitExpiry side line) s = .next s)
      ∧ (slot.ready = false → (∀ oldest, slots.head? = some oldest → oldest.ready = false) →
        exec (.waitExpiry side line) s =
          .next { s.timeReached slot.deadline with asm := s.asm.set side { a with slots := slots } })
      ∧ (slot.ready = false → (∀ oldest, slots.head? = some oldest → oldest.ready = true) →
        ∃ t, exec (.waitExpiry side line) s = .next t
          ∧ State.linesClosed side (slots.dropWhile (·.ready)) (slots.takeWhile (·.ready))
            (s.timeReached slot.deadline) t)

/-! ### Lane maps, recipes and changeover -/

/-- R54: SET_RECIPE replaces a whole recipe, or is refused RANGE; in INIT it is discarded. -/
def Obligations.SetRecipeReplacesWholeRecipe : Prop :=
  ∀ (s : State) (p : Port) (i pt ma gl mb1 mb0 on off sh ms1 ms0 rl1 rl0 fl : Byte),
    let body := [i, pt, ma, gl, mb1, mb0, on, off, sh, ms1, ms0, rl1, rl0, fl]
    let fits :=
      1 ≤ pt.toNat ∧ 1 ≤ ma.toNat ∧ gl.toNat ≤ 3 ∧ 1 ≤ be16 mb1 mb0 ∧ be16 mb1 mb0 ≤ 4095 ∧ 1 ≤ on.toNat
        ∧ on.toNat ≤ 63 ∧ off.toNat ≤ on.toNat ∧ sh.toNat ≤ 7 ∧ 1 ≤ be16 ms1 ms0 ∧ be16 ms1 ms0 ≤ 4095
    (s.runState = .init → exec (.setRecipe p body) s = .next (s.transferred p 14))
      ∧ (s.takes p → 8 ≤ i.toNat ∨ ¬fits → exec (.setRecipe p body) s = .next (s.refused p 14 .range))
      ∧ ∀ r : RecipeId, i = BitVec.ofNat 8 r.val → s.takes p → fits →
        exec (.setRecipe p body) s =
          .next
            { s.answered p 14 { code := .ok, body := [] } with
              lanes :=
                { s.lanes with
                  recipes :=
                    s.lanes.recipes.set r
                      { pinThreshold := pt.toNat, minArea := ma.toNat, gapLines := gl.toNat
                        maxBlobLines := be16 mb1 mb0, streakOn := on.toNat, streakOff := off.toNat
                        shift := sh.toNat, minStreakLines := be16 ms1 ms0, reportLines := be16 rl1 rl0
                        lightEnable := fl.getLsbD 0, darkEnable := fl.getLsbD 1, markPinhole := fl.getLsbD 2
                        markLarge := fl.getLsbD 3, markStreakOpen := fl.getLsbD 4
                        markStreakContinue := fl.getLsbD 5 } } }

/-- R56 to R58: SET_LANE replaces a whole lane record, after its refusals in their order. -/
def Obligations.SetLaneReplacesLaneRecord : Prop :=
  ∀ (s : State) (p : Port) (bk sd ln e sf1 sf0 sl1 sl0 cf1 cf0 cl1 cl0 r m : Byte), s.takes p →
    let body := [bk, sd, ln, e, sf1, sf0, sl1, sl0, cf1, cf0, cl1, cl0, r, m]
    let fits :=
      e.toNat ≤ 1 ∧ be16 sf1 sf0 ≤ be16 cf1 cf0 ∧ be16 cf1 cf0 ≤ be16 cl1 cl0 ∧ be16 cl1 cl0 ≤ be16 sl1 sl0
        ∧ be16 sl1 sl0 ≤ 16383 ∧ r.toNat ≤ 7 ∧ (m.toNat ≤ 7 ∨ m = 0xFF)
    (2 ≤ bk.toNat ∨ 2 ≤ sd.toNat ∨ 16 ≤ ln.toNat → exec (.setLane p body) s = .next (s.refused p 14 .range))
      ∧ ∀ (bank : Bank) (side : Side) (lane : LaneId),
        bk = bankByte bank → sd = sideByte side → ln = BitVec.ofNat 8 lane.val →
        let inUse := s.lanes.active.get side = bank ∧ s.runState ≠ .standby
        let banks := s.lanes.banks.get side
        (inUse → exec (.setLane p body) s = .next (s.refused p 14 .state))
          ∧ (¬inUse → ¬fits → exec (.setLane p body) s = .next (s.refused p 14 .range))
          ∧ ∀ (recipe : RecipeId) (marker : Option MarkerId),
            r = BitVec.ofNat 8 recipe.val → m = markerByte marker → ¬inUse → fits →
            let written :=
              (banks.get bank).set lane
                { enabled := e = 1, spanFirst := be16 sf1 sf0, spanLast := be16 sl1 sl0
                  coatedFirst := be16 cf1 cf0, coatedLast := be16 cl1 cl0, recipe := recipe, marker := marker }
            let invalid :=
              ∃ i j : LaneId, i ≠ j ∧ written[i].enabled = true ∧ written[j].enabled = true
                ∧ written[i].spanFirst ≤ written[j].spanLast ∧ written[j].spanFirst ≤ written[i].spanLast
            let awaited :=
              ∃ w : SwitchRecord, s.lanes.switch = some w ∧ w.switched.get side = false ∧ w.target.get side = bank
            (awaited → invalid → exec (.setLane p body) s = .next (s.refused p 14 .invalidMap))
              ∧ (¬(awaited ∧ invalid) →
                exec (.setLane p body) s =
                  .next
                    { s.answered p 14 { code := .ok, body := [] } with
                      lanes := { s.lanes with banks := s.lanes.banks.set side (banks.set bank written) } })

/-- R60, R64, R65: SWITCH_BANK, after its refusals in their order: in STANDBY a NOW request changes both sides over at once;
otherwise every side without an enabled head changes over at once, and the request stays pending for the others. -/
def Obligations.SwitchBankRequestsOrSwitches : Prop :=
  ∀ (s : State) (p : Port) (m b3 b2 b1 b0 : Byte), s.takes p →
    let body := [m, b3, b2, b1, b0]
    let targets : PerSide Bank := { top := otherBank s.lanes.active.top, bottom := otherBank s.lanes.active.bottom }
    let valid :=
      ∀ side : Side,
        let bank := (s.lanes.banks.get side).get (targets.get side)
        ∀ i j : LaneId, i ≠ j → bank[i].enabled = true → bank[j].enabled = true →
          bank[i].spanLast < bank[j].spanFirst ∨ bank[j].spanLast < bank[i].spanFirst
    let switched := fun (side : Side) (mode : SwitchMode) =>
      plainOffer .laneMap
        { side := some side, lane := none, position := s.pos.web,
          content := .bankSwitched (targets.get side) mode } none
    (3 ≤ m.toNat → exec (.switchBank p body) s = .next (s.refused p 5 .range))
      ∧ ∀ mode : SwitchMode, m = (match mode with | .now => 0 | .atPosition => 1 | .atSplice => 2) →
        (s.lanes.switch.isSome = true → exec (.switchBank p body) s = .next (s.refused p 5 .pending))
          ∧ (s.lanes.switch = none → ¬valid → exec (.switchBank p body) s = .next (s.refused p 5 .invalidMap))
          ∧ (s.lanes.switch = none → valid → s.runState = .standby → mode = .now → s.restsOutsideRuns →
            exec (.switchBank p body) s =
              .next
                { s.answered p 5 { code := .ok, body := [] } with
                  lanes := { s.lanes with active := targets }
                  store := s.store.adding [switched .top mode, switched .bottom mode] })
          ∧ (s.lanes.switch = none → valid → ¬(s.runState = .standby ∧ mode = .now) →
            ∃ t, exec (.switchBank p body) s = .next t
              ∧ t.lanes.recipes = s.lanes.recipes ∧ t.lanes.banks = s.lanes.banks
              ∧ t.lanes.arrivals = s.lanes.arrivals
              ∧ (∀ side : Side,
                t.lanes.active.get side = (if s.hasHead side then s.lanes.active.get side else targets.get side)
                  ∧ (s.hasHead side = true → t.eng.get side = s.eng.get side)
                  ∧ (s.hasHead side = false → switched side mode ∈ t.store.waiting))
              ∧ t.lanes.switch =
                (if s.hasHead .top || s.hasHead .bottom then
                  some
                    { mode := mode
                      position := if mode = .atPosition then some (BitVec.ofNat 32 (be32 b3 b2 b1 b0)) else none
                      attached := none
                      target := targets
                      switched := { top := !s.hasHead .top, bottom := !s.hasHead .bottom } }
                else none)
              ∧ t.ports = (s.answered p 5 { code := .ok, body := [] }).ports ∧ t.pos = s.pos ∧ t.heads = s.heads
              ∧ t.asm = s.asm ∧ t.marks = s.marks ∧ t.runState = s.runState
              ∧ t.store.records = s.store.records)

/-- R61: CANCEL_SWITCH removes the pending switch and detaches every arrival entry, or is refused STATE; no side changes its
active bank. -/
def Obligations.CancelSwitchRemovesRequest : Prop :=
  ∀ (s : State) (p : Port), s.takes p →
    (s.lanes.switch = none → exec (.cancelSwitch p []) s = .next (s.refused p 0 .state))
      ∧ (s.lanes.switch.isSome = true →
        exec (.cancelSwitch p []) s =
          .next
            { s.answered p 0 { code := .ok, body := [] } with
              lanes :=
                { s.lanes with
                  switch := none
                  arrivals :=
                    { top := s.lanes.arrivals.top.map fun x => { x with attached := false }
                      bottom := s.lanes.arrivals.bottom.map fun x => { x with attached := false } } } })

/-- R63, R64, R67, R70, R86, R102, R124: the changeover stage of a take. Arrivals up to the first one not reached leave the list, each
with its SPLICE_ARRIVED record, and end a running teach with TEACH_ABORTED behind the first. A side that has not switched changes over
by an attached arrival among them, or behind them by NOW, by position, or by the position of a splice its full list had refused, with
the records of its open blobs and streaks under the former bank and snapshot and a BANK_SWITCHED record, and its blob table, its streak
table and its bins are empty after the stage; otherwise they stay. The records of the stage stand first in the record list, in the order
they arose. With no switch left for the side, its bank stays. -/
def Obligations.TakeChangesSideOver : Prop :=
  ∀ (s : State) (side : Side) (line : LineEntry) (rest : List LineEntry),
    (s.eng.get side).inFlight = none → (s.eng.get side).held = [] → (s.asm.get side).queue = line :: rest →
    (s.eng.get side).streaksOwned →
    let e := s.eng.get side
    let entries := s.lanes.arrivals.get side
    let isReached := fun x : ArrivalEntry => atOrAhead line.position x.arrival
    let reached := entries.takeWhile isReached
    let abort := e.abortRecords side .splice line.position
    let bank := s.activeBank side
    let staged := ((s.beginLine side line rest).stageChangeover side line.position).eng.get side
    let stays := staged.blobs = e.blobs ∧ staged.streaks = e.streaks ∧ staged.bins = e.bins
    (∀ (w : SwitchRecord) (former : Recipes),
        s.lanes.switch = some w → w.switched.get side = false → e.snapshot = some former ∨ e.blobs = [] →
        let change :=
          pinholeRecords side bank former false true e.blobs ++ e.streakCloseRecords side bank .mapChange
            ++ [plainOffer (.engine side)
                { side := some side, lane := none, position := line.position,
                  content := .bankSwitched (w.target.get side) w.mode } none]
        let due :=
          match w.mode with
          | .now => True
          | .atPosition => ∃ at', w.position = some at' ∧ atOrAhead line.position at' = true
          | .atSplice =>
            ∃ at' entered, w.position = some at' ∧ w.attached = some entered ∧ entered.get side = false
              ∧ atOrAhead line.position at' = true
        let byArrival := ∃ x ∈ reached, x.attached = true
        let switched := w.switched.set side true
        let arrived := arrivalRecords side line.position change true abort reached
        ∃ t, exec (.lineTake side) s = .next t
          ∧ t.lanes.arrivals.get side = entries.dropWhile isReached
          ∧ (reached ≠ [] → (t.eng.get side).teach = none)
          ∧ (byArrival ∨ due →
            t.lanes.active.get side = w.target.get side
              ∧ t.lanes.switch =
                (if switched = { top := true, bottom := true } then none else some { w with switched := switched })
              ∧ staged.blobs = [] ∧ staged.streaks = [] ∧ staged.bins = [])
          ∧ (byArrival → arrived <+: (t.eng.get side).recordList)
          ∧ (¬byArrival → due → arrived ++ change <+: (t.eng.get side).recordList)
          ∧ (¬byArrival → ¬due →
            arrived <+: (t.eng.get side).recordList ∧ t.lanes.active.get side = s.lanes.active.get side
              ∧ t.lanes.switch = some w ∧ stays))
      ∧ ((∀ w : SwitchRecord, s.lanes.switch = some w → w.switched = ({ top := false, bottom := false } : PerSide Bool).set side true) →
        ∃ t, exec (.lineTake side) s = .next t
          ∧ t.lanes.arrivals.get side = entries.dropWhile isReached
          ∧ (reached ≠ [] → (t.eng.get side).teach = none)
          ∧ arrivalRecords side line.position [] false abort reached <+: (t.eng.get side).recordList
          ∧ t.lanes.active.get side = s.lanes.active.get side ∧ t.lanes.switch = s.lanes.switch ∧ stays)

/-! ### Side engines: the line operation -/

/-- R71 to R73, R76, R79, R80: a take moves the oldest line into the engine and runs the stages in their order: the changeover stage,
the recipe snapshot, the passes of the dropped lines that the line carries, and then stages 3 to 7 of the line, under the bank in
force. Each enabled lane of that bank gets the mean of the corrected values of its coated zone, or is found blind. Nothing beyond the
side's engine, its queue and the lane map unit changes. -/
def Obligations.LineTakeRunsOperation : Prop :=
  ∀ (s : State) (side : Side) (line : LineEntry) (rest : List LineEntry),
    (s.eng.get side).inFlight = none → (s.eng.get side).held = [] → (s.asm.get side).queue = line :: rest →
    let corrected := fun c : Nat × Byte =>
      let k := (s.eng.get side).calEntry c.1
      min 255 (((c.2.toNat - k.dark) * k.gain + 2048) / 4096)
    let cols := line.cols.map fun c => (c.1, corrected c)
    let settled := (s.beginLine side line rest).stageChangeover side line.position
    let bank := settled.activeBank side
    let recipes := s.lanes.recipes
    let snapped : Engine := { (settled.eng.get side) with snapshot := some recipes }
    let passed := snapped.dropPasses side line.position bank recipes (line.precedingDrop.getD 0)
    ∃ t, exec (.lineTake side) s = .next t
      ∧ t.eng.get side =
        (((passed.stageLevels bank cols).stagePinholes side line.position bank recipes cols).stageStreaks side
            line.position bank recipes cols).stageTeach side line.position line.cols
      ∧ t.lanes = settled.lanes
      ∧ (t.eng.get side).inFlight = some line ∧ (t.eng.get side).held = []
      ∧ (t.eng.get side).snapshot = some s.lanes.recipes ∧ (t.eng.get side).runList = []
      ∧ (t.eng.get side).binWidth = (s.eng.get side).binWidth
      ∧ ((s.eng.get side).teach = none →
        (t.eng.get side).teach = none ∧ (t.eng.get side).cal = (s.eng.get side).cal)
      ∧ (∀ i : LaneId,
        let r := (t.activeBank side)[i]
        let zone := (line.cols.filter fun c => decide (r.coatedFirst ≤ c.1 ∧ c.1 ≤ r.coatedLast)).map corrected
        (t.eng.get side).laneLevels[i] =
          if r.enabled = false then .none else if zone = [] then .blind else .mean (zone.sum / zone.length))
      ∧ (∀ o ∈ (t.eng.get side).recordList, o.writer = .engine side ∧ o.step = none)
      ∧ t.asm = s.asm.set side { (s.asm.get side) with queue := rest }
      ∧ t.lanes.recipes = s.lanes.recipes ∧ t.lanes.banks = s.lanes.banks
      ∧ (∀ other : Side, other ≠ side →
        t.eng.get other = s.eng.get other ∧ t.lanes.active.get other = s.lanes.active.get other
          ∧ t.lanes.arrivals.get other = s.lanes.arrivals.get other)
      ∧ t.pos = s.pos ∧ t.heads = s.heads ∧ t.store = s.store ∧ t.marks = s.marks ∧ t.ports = s.ports
      ∧ t.runState = s.runState ∧ t.now = s.now ∧ t.freeDraws = s.freeDraws

/-- R73: dropped lines find every enabled lane blind and change no blob, bin, streak, teach or calibration entry, and make no
record. (The premises hold of the bank in force: blobs and bins are those of its enabled lanes.) -/
def Obligations.DroppedLinesChangeNothing : Prop :=
  ∀ (e : Engine) (side : Side) (position : Position) (bank : LaneBank) (recipes : Recipes) (n : Nat),
    (∀ x ∈ e.blobs, bank[x.lane].enabled = true) →
    (∀ jb ∈ e.bins,
      ∃ i : LaneId, bank[i].enabled = true ∧ bank[i].coatedFirst ≤ jb.1 * e.binWidth
        ∧ jb.1 * e.binWidth + e.binWidth ≤ bank[i].coatedLast + 1) →
    ∃ levels : Vector LaneLevel 16,
      e.dropPasses side position bank recipes (n + 1) =
          { e with laneLevels := levels, runList := [], runsDropped := 0, blobDrops := 0 }
        ∧ ∀ i : LaneId, levels[i] = if bank[i].enabled then .blind else .none

/-- R75, R77, R78: SET_CAL is held while a line of its side is in flight; otherwise it writes its entries, a gain above 8191 as
8191, after its refusals in their order. -/
def Obligations.SetCalWritesEntries : Prop :=
  ∀ (s : State) (p : Port) (sd f1 f0 n1 n0 : Byte) (entries : List (Byte × Byte × Byte)), s.takes p →
    be16 n1 n0 = entries.length →
    let body := sd :: f1 :: f0 :: n1 :: n0 :: entries.flatMap fun x => [x.1, x.2.1, x.2.2]
    let first := be16 f1 f0
    let fits := 1 ≤ entries.length ∧ entries.length ≤ 256 ∧ first + entries.length ≤ 16384
    (2 ≤ sd.toNat → exec (.setCal p body) s = .next (s.refused p body.length .range))
      ∧ ∀ side : Side, sd = sideByte side →
        let e := s.eng.get side
        (e.inFlight.isSome = true →
            exec (.setCal p body) s =
              .next (s.commandHeld p body.length side { port := p, command := .setCal, body := body }))
          ∧ (e.inFlight = none → ¬fits → exec (.setCal p body) s = .next (s.refused p body.length .range))
          ∧ (e.inFlight = none → fits → e.teach.isSome = true →
            exec (.setCal p body) s = .next (s.refused p body.length .busy))
          ∧ (e.inFlight = none → fits → e.teach = none → e.calibrationInRange →
            ∃ cal,
              exec (.setCal p body) s =
                  .next
                    { s.answered p body.length { code := .ok, body := [] } with
                      eng := s.eng.set side { e with cal := cal } }
                ∧ ∀ column,
                  { e with cal := cal }.calEntry column =
                    if column < first then e.calEntry column
                    else
                      match entries[column - first]? with
                      | some x => { dark := x.1.toNat, gain := min 8191 (be16 x.2.1 x.2.2) }
                      | none => e.calEntry column)

/-- R75, R81, R85, R86: TEACH begins a teach in INSPECTING and TEACH_ABORT ends one with its TEACH_ABORTED record, each held
while a line of its side is in flight, after their refusals in their order. -/
def Obligations.TeachBeginsAndAborts : Prop :=
  ∀ (s : State) (p : Port) (sd n1 n0 target : Byte), s.takes p →
    let body := [sd, n1, n0, target]
    let n := be16 n1 n0
    let fits := (n = 16 ∨ n = 32 ∨ n = 64 ∨ n = 128 ∨ n = 256) ∧ 1 ≤ target.toNat
    (2 ≤ sd.toNat →
        exec (.teach p body) s = .next (s.refused p 4 .range)
          ∧ exec (.teachAbort p [sd]) s = .next (s.refused p 1 .range))
      ∧ ∀ side : Side, sd = sideByte side →
        let e := s.eng.get side
        (e.inFlight.isSome = true →
            exec (.teach p body) s = .next (s.commandHeld p 4 side { port := p, command := .teach, body := body })
              ∧ exec (.teachAbort p [sd]) s =
                .next (s.commandHeld p 1 side { port := p, command := .teachAbort, body := [sd] }))
          ∧ (e.inFlight = none →
            (¬fits → exec (.teach p body) s = .next (s.refused p 4 .range))
              ∧ (fits → s.runState ≠ .inspecting → exec (.teach p body) s = .next (s.refused p 4 .state))
              ∧ (fits → s.runState = .inspecting → e.teach.isSome = true →
                exec (.teach p body) s = .next (s.refused p 4 .busy))
              ∧ (fits → s.runState = .inspecting → e.teach = none →
                exec (.teach p body) s =
                  .next
                    { s.answered p 4 { code := .ok, body := [] } with
                      eng :=
                        s.eng.set side
                          { e with teach := some { n := n, target := target.toNat, taken := 0, columns := [] } } })
              ∧ (e.teach = none → exec (.teachAbort p [sd]) s = .next (s.refused p 1 .state))
              ∧ ∀ k : Teach, e.teach = some k →
                exec (.teachAbort p [sd]) s =
                  .next
                    { s.answered p 1 { code := .ok, body := [] } with
                      eng := s.eng.set side { e with teach := none }
                      store :=
                        s.store.adding
                          [plainOffer (.engine side)
                            { side := some side, lane := none, position := s.pos.web,
                              content := .teachAborted .abort k.n k.taken } none] })

/-- R108: SET_SIDE sets the bin width and makes a new bin array, every bin QUIET with s = 0, or is refused in the order of the
rule; in INIT it is discarded. -/
def Obligations.SetSideMakesNewBins : Prop :=
  ∀ (s : State) (p : Port) (sd w : Byte),
    (s.runState = .init → exec (.setSide p [sd, w]) s = .next (s.transferred p 2))
      ∧ (s.takes p → 2 ≤ sd.toNat → exec (.setSide p [sd, w]) s = .next (s.refused p 2 .range))
      ∧ ∀ side : Side, sd = sideByte side → s.takes p →
        let fits := w = 4 ∨ w = 8 ∨ w = 16
        (s.runState ≠ .standby → exec (.setSide p [sd, w]) s = .next (s.refused p 2 .state))
          ∧ (s.runState = .standby → ¬fits → exec (.setSide p [sd, w]) s = .next (s.refused p 2 .range))
          ∧ (s.runState = .standby → fits →
            exec (.setSide p [sd, w]) s =
                .next
                  { s.answered p 2 { code := .ok, body := [] } with
                    eng := s.eng.set side { (s.eng.get side) with binWidth := w.toNat, bins := [] } }
              ∧ ∀ j,
                { (s.eng.get side) with binWidth := w.toNat, bins := [] }.bin j =
                  { s := 0, state := .quiet, sign := .light, start := 0, last := 0, length := 0, peak := 0
                    sinceReport := 0, waiting := false })

/-- R74, R75: when the record list is empty the line in flight is released, and the held commands are taken in order of arrival, each
at its port. A held SET_CAL, TEACH or TEACH_ABORT does what the same frame does when its engine takes it at once
(SetCalWritesEntries, TeachBeginsAndAborts): its refusals are tested, and its effect falls, when it is taken. A transfer of its port
that began before has shifted out BUSY (R154); whether there is one is free: the statement holds for every value (log 6). A port without
a held command, and everything beyond the engine, the ports and the records made, is left as it stands. (The lane levels are cleared,
log 16.) -/
def Obligations.LineOperationEndReleasesLine : Prop :=
  (∀ (s : State) (side : Side), (s.eng.get side).inFlight.isSome = true → (s.eng.get side).recordList = [] →
      let e := s.eng.get side
      let released : State :=
        { s with
          eng := s.eng.set side { e with inFlight := none, held := [], laneLevels := Vector.replicate 16 .none } }
      let shown := fun (u : State) (p : Port) =>
        (u.ports.get p).shownStatus.or (if Config.transferBegun u.freeDraws then some (u.statusByte p) else none)
      let kept := fun (u : State) (p : Port) =>
        ({ u with
          freeDraws := u.freeDraws + 1
          ports := u.ports.set p { (u.ports.get p) with shownStatus := shown u p } } : State)
      ∃ t, exec (.lineOperationEnd side) s = .next t
        ∧ t = e.held.foldl (fun u c => (kept u c.port).takeEngineCommand c.port side c.command c.body) released
        ∧ (∀ p : Port, s.runState ≠ .init → (s.ports.get p).phase = .executing → s.statusByte p = 0xA2)
        ∧ t.freeDraws = s.freeDraws + e.held.length
        ∧ (∀ (c : HeldCommand) (k : Teach), e.held = [c] → c.command = .teachAbort → e.teach = some k →
          t =
            { released with
              freeDraws := s.freeDraws + 1
              eng := released.eng.set side { (released.eng.get side) with teach := none }
              ports :=
                s.ports.set c.port
                  { (s.ports.get c.port) with
                    phase := .responseHeld, held := some { code := .ok, body := [] }, shownStatus := shown s c.port }
              store :=
                s.store.adding
                  [plainOffer (.engine side)
                    { side := some side, lane := none, position := s.pos.web,
                      content := .teachAborted .abort k.n k.taken } none] })
        ∧ (t.eng.get side).inFlight = none ∧ (t.eng.get side).held = [] ∧ (t.eng.get side).recordList = []
        ∧ (t.eng.get side).blobs = e.blobs ∧ (t.eng.get side).bins = e.bins ∧ (t.eng.get side).streaks = e.streaks
        ∧ (t.eng.get side).snapshot = e.snapshot
        ∧ (∀ c ∈ e.held, (t.ports.get c.port).phase = .responseHeld ∧ (t.ports.get c.port).held.isSome = true)
        ∧ (∀ p : Port, (∀ c ∈ e.held, c.port ≠ p) → t.ports.get p = s.ports.get p)
        ∧ (∀ other : Side, other ≠ side → t.eng.get other = s.eng.get other)
        ∧ t.asm = s.asm ∧ t.pos = s.pos ∧ t.heads = s.heads ∧ t.lanes = s.lanes ∧ t.marks = s.marks
        ∧ t.runState = s.runState ∧ t.now = s.now ∧ t.store.records = s.store.records
        ∧ t.store.reading = s.store.reading ∧ s.store.waiting <+: t.store.waiting)
    ∧ ∀ (s : State) (p : Port) (side : Side) (rest : List Byte), s.takes p → (s.eng.get side).inFlight = none →
      let body := sideByte side :: rest
      let takes := fun (i : Instr) (c : EngineCommand) =>
        i.lengthAllowed = true →
          exec i s = .next ((s.begun p body.length).takeEngineCommand p side c body)
      takes (.setCal p body) .setCal ∧ takes (.teach p body) .teach ∧ takes (.teachAbort p body) .teachAbort

/-! ### Side engines: pinholes -/

/-- R88 to R90: the candidates are the columns of the coated zone of an enabled lane with a mean whose contrast is at least its
recipe's pin_threshold, and the runs are the maximal sequences of adjacent candidates of one lane, in ascending order, each with
the peak contrast of its candidates. The first 256 runs are kept; the later ones are counted and make one OVERFLOW record of kind
RUNS, ahead of the records of the blob update, which takes the runs kept and tests for freezing with those dropped. -/
def Obligations.RunsAreMaximalCandidateSequences : Prop :=
  ∀ (bank : LaneBank) (recipes : Recipes) (cols : List (Nat × Nat)) (e : Engine) (side : Side) (position : Position),
    (cols.Pairwise fun x y => x.1 < y.1) →
    (∀ i j : LaneId, i ≠ j → bank[i].enabled = true → bank[j].enabled = true →
      ∀ column, bank[i].coatedFirst ≤ column → column ≤ bank[i].coatedLast →
        ¬(bank[j].coatedFirst ≤ column ∧ column ≤ bank[j].coatedLast)) →
    let isCandidate := fun (lane : LaneId) (column contrast : Nat) =>
      ∃ value m, (column, value) ∈ cols ∧ bank[lane].enabled = true ∧ bank[lane].coatedFirst ≤ column
        ∧ column ≤ bank[lane].coatedLast ∧ e.laneLevels[lane] = .mean m
        ∧ m + recipes[bank[lane].recipe].pinThreshold ≤ value ∧ contrast = value - m
    ∃ runs : List Run,
      (∀ lane column,
          (∃ r ∈ runs, r.lane = lane ∧ r.first ≤ column ∧ column ≤ r.last)
            ↔ ∃ contrast, isCandidate lane column contrast)
        ∧ (runs.Pairwise fun r r' => r.last < r'.first ∧ (r.lane = r'.lane → r.last + 1 < r'.first))
        ∧ (∀ r ∈ runs,
          r.first ≤ r.last
            ∧ (∃ column, r.first ≤ column ∧ column ≤ r.last ∧ isCandidate r.lane column r.peak)
            ∧ ∀ column contrast, r.first ≤ column → column ≤ r.last → isCandidate r.lane column contrast →
              contrast ≤ r.peak)
        ∧ let count := min 65535 (runs.length - 256)
          let found : Engine :=
            { e with
              runList := runs.take 256, runsDropped := count
              recordList :=
                e.recordList
                  ++ (match runs.drop 256 with
                    | [] => []
                    | r :: _ =>
                      [plainOffer (.engine side)
                        { side := some side, lane := none, position := position,
                          content := .overflowRuns count r.first } none]) }
          e.stagePinholes side position bank recipes cols
            = found.stageBlobs side position bank recipes cols (runs.drop 256)

/-- R91 to R101, R104: the blob update and the walk, of any blob table. Without a run, the walk leaves, from the oldest blob on, a
frozen one as it stands (a blind lane; a test column blind or within a dropped run), counts a miss of another, or closes it. Runs that
touch no blob leave the walk as it is; each opens a blob behind the others, and those that find 128 blobs are dropped with one OVERFLOW
record of kind BLOBS ahead of the PINHOLE records. Runs that touch one blob extend it in its place, closing it LARGE at
max_blob_lines. Runs that touch two, or one of two that another run touches both, extend the older blob merged with the younger
(unless their first positions are exactly 2^31 apart, log 14). -/
def Obligations.BlobUpdateOpensGrowsMergesAndCloses : Prop :=
  ∀ (e : Engine) (side : Side) (position : Position) (bank : LaneBank) (recipes : Recipes) (cols : List (Nat × Nat))
    (droppedRuns : List Run) (isFrozen : Blob → Bool),
    (∀ x ∈ e.blobs,
      isFrozen x = true ↔
        e.laneLevels[x.lane] = .blind
          ∨ ∃ c, x.prevLo - 1 ≤ c ∧ c ≤ x.prevHi + 1 ∧ bank[x.lane].coatedFirst ≤ c ∧ c ≤ bank[x.lane].coatedLast
            ∧ c < 16384 ∧ ((∀ value, (c, value) ∉ cols) ∨ ∃ r ∈ droppedRuns, r.first ≤ c ∧ c ≤ r.last)) →
    let after := e.stageBlobs side position bank recipes cols droppedRuns
    let recipe := fun x : Blob => recipes[bank[x.lane].recipe]
    let record := fun (x : Blob) (large mark : Bool) =>
      if (recipe x).minArea ≤ x.area then
        [plainOffer (.engine side)
          { side := some side, lane := some x.lane, position := x.firstPos,
            content :=
              .pinhole x.lastPos x.firstColumn x.lastColumn x.area x.peak x.lines
                { merged := x.merged, large := large, truncated := false, mapChange := false } bank[x.lane].marker }
          (some mark)]
      else []
    let stays := fun x : Blob =>
      if isFrozen x then [x]
      else if x.misses + 1 ≤ (recipe x).gapLines then [{ x with misses := x.misses + 1 }]
      else []
    let closes := fun x : Blob =>
      if isFrozen x then []
      else if x.misses + 1 ≤ (recipe x).gapLines then []
      else record x false (recipe x).markPinhole
    let touches := fun (r : Run) (x : Blob) => x.lane = r.lane ∧ r.first ≤ x.prevHi + 1 ∧ x.prevLo ≤ r.last + 1
    let grown := fun (runs : List Run) (first last : Nat) (x : Blob) =>
      { x with
        firstColumn := min x.firstColumn first, lastColumn := max x.lastColumn last, prevLo := first, prevHi := last
        area := min 65535 (x.area + (runs.map fun r => r.last - r.first + 1).sum)
        peak := (runs.map (·.peak)).foldl max x.peak
        lines := min 65535 (x.lines + 1), misses := 0, lastPos := position }
    let isLarge := fun x : Blob => decide ((recipe x).maxBlobLines ≤ x.lines)
    let kept := fun x : Blob => if isLarge x then [] else [x]
    let largeRecord := fun x : Blob => if isLarge x then record x true (recipe x).markLarge else []
    let walked := fun (blobs : List Blob) (drops : Nat) (made : List Offer) =>
      { e with runList := [], blobDrops := drops, blobs := blobs, recordList := e.recordList ++ made }
    let spans := fun (runs : List Run) (first last : Nat) =>
      (∃ r ∈ runs, r.first = first) ∧ (∀ r ∈ runs, first ≤ r.first) ∧ (∃ r ∈ runs, r.last = last)
        ∧ ∀ r ∈ runs, r.last ≤ last
    ((∀ r ∈ e.runList, ∀ x ∈ e.blobs, ¬touches r x) →
        let opened := (e.runList.take (128 - e.blobs.length)).map fun r =>
          ({ lane := r.lane, firstPos := position, lastPos := position, firstColumn := r.first
             lastColumn := r.last, prevLo := r.first, prevHi := r.last, area := min 65535 (r.last - r.first + 1)
             peak := r.peak, lines := 1, misses := 0, merged := false } : Blob)
        let lost := e.runList.drop (128 - e.blobs.length)
        after =
          walked (e.blobs.flatMap stays ++ opened.flatMap kept) lost.length
            ((match lost with
              | [] => []
              | r :: _ =>
                [plainOffer (.engine side)
                  { side := some side, lane := some r.lane, position := position,
                    content := .overflowBlobs lost.length r.first } none])
              ++ e.blobs.flatMap closes ++ opened.flatMap largeRecord))
      ∧ (∀ (older younger : List Blob) (x : Blob) (first last : Nat),
        e.blobs = older ++ x :: younger → spans e.runList first last →
        (∀ r ∈ e.runList, touches r x ∧ ∀ y ∈ older ++ younger, ¬touches r y) →
        let b := grown e.runList first last x
        after =
          walked (older.flatMap stays ++ kept b ++ younger.flatMap stays) 0
            (older.flatMap closes ++ largeRecord b ++ younger.flatMap closes))
      ∧ ∀ (older between younger : List Blob) (x y : Blob) (first last : Nat),
        e.blobs = older ++ x :: (between ++ y :: younger) → spans e.runList first last →
        (∃ r ∈ e.runList, touches r x ∧ touches r y) →
        (∀ r ∈ e.runList, (touches r x ∨ touches r y) ∧ ∀ z ∈ older ++ between ++ younger, ¬touches r z) →
        (x.firstPos - y.firstPos).toNat ≠ 2 ^ 31 →
        let b :=
          grown e.runList first last
            { x with
              firstColumn := min x.firstColumn y.firstColumn, lastColumn := max x.lastColumn y.lastColumn
              area := min 65535 (x.area + y.area)
              firstPos := if ahead x.firstPos y.firstPos then y.firstPos else x.firstPos
              peak := max x.peak y.peak, lines := max x.lines y.lines, merged := true }
        after =
          walked (older.flatMap stays ++ kept b ++ between.flatMap stays ++ younger.flatMap stays) 0
            (older.flatMap closes ++ largeRecord b ++ between.flatMap closes ++ younger.flatMap closes)

/-! ### Side engines: streaks -/

/-- R109 to R112, R120: in stage 6 a bin is frozen when its lane has no mean or a column of it is blind; otherwise its accumulator
moves by its deviation e from the lane mean, and its state makes its transition. An update takes s to
s + floor((16 e - s) / 2^shift); it never passes the target 16 e, with shift 0 takes it at once, falls to it exactly from above,
and from below comes to rest less than 2^shift short of it; it stays in -4080 to 4080. R109, R120: stage 6 takes, in ascending index,
exactly the bins all of whose columns lie in the coated zone of one enabled lane, each with that lane, and holds every other bin QUIET
with s = 0 and waiting no. -/
def Obligations.BinFreezesOrMovesTowardTarget : Prop :=
  (∀ (e : Engine) (side : Side) (position : Position) (bank : LaneBank) (recipes : Recipes) (cols : List (Nat × Nat))
      (j : Nat) (lane : LaneId),
      let w := e.binWidth
      let values := (cols.filter fun c => decide (j * w ≤ c.1 ∧ c.1 < j * w + w)).map (·.2)
      let recipe := recipes[bank[lane].recipe]
      let after := stepBin side position bank recipes cols e (j, lane)
      ((∀ m, e.laneLevels[lane] ≠ .mean m) ∨ values.length ≠ w → after = e)
        ∧ ∀ m : Nat, e.laneLevels[lane] = .mean m → values.length = w →
          after =
            e.transition
              { side := side, position := position, bank := bank, recipe := recipe, lane := lane, index := j }
              (accumulate recipe.shift (e.bin j).s (((values.sum / w : Nat) : Int) - m)))
    ∧ ∀ (shift : Nat) (s deviation : Int),
      let target := 16 * deviation
      let next := accumulate shift s deviation
      let updates := fun n : Nat => Nat.rec (motive := fun _ => Int) s (fun _ x => accumulate shift x deviation) n
      (shift = 0 → next = target)
        ∧ next = s + Int.floor (((target - s : Int) : ℚ) / 2 ^ shift)
        ∧ (target < s → target ≤ next ∧ next ≤ s - 1)
        ∧ (s ≤ target → s ≤ next ∧ next ≤ target)
        ∧ (s ≤ target → (next = s ↔ target - s < 2 ^ shift))
        ∧ (target ≤ s → ∃ n, ∀ m, n ≤ m → updates m = target)
        ∧ (s ≤ target → ∃ n, ∀ m, n ≤ m → updates m = updates n ∧ updates n ≤ target ∧ target - updates n < 2 ^ shift)
        ∧ (-255 ≤ deviation → deviation ≤ 255 → -4080 ≤ s → s ≤ 4080 → -4080 ≤ next ∧ next ≤ 4080)
    ∧ ∀ (e : Engine) (side : Side) (position : Position) (bank : LaneBank) (recipes : Recipes) (cols : List (Nat × Nat)),
      (e.binWidth = 4 ∨ e.binWidth = 8 ∨ e.binWidth = 16) → sparseWf (Bin.quiet 0) e.bins = true →
      (∀ i : LaneId, bank[i].enabled = true → bank[i].coatedLast < 16384) →
      (∀ i j : LaneId, i ≠ j → bank[i].enabled = true → bank[j].enabled = true →
        ∀ column, bank[i].coatedFirst ≤ column → column ≤ bank[i].coatedLast →
          ¬(bank[j].coatedFirst ≤ column ∧ column ≤ bank[j].coatedLast)) →
      let w := e.binWidth
      let rests := fun b : Bin => b.state = .quiet ∧ b.s = 0 ∧ b.waiting = false
      let after := e.stageStreaks side position bank recipes cols
      ∃ (evaluated : List (Nat × LaneId)) (held : Engine),
        (evaluated.Pairwise fun x y => x.1 < y.1)
          ∧ (∀ j lane,
            (j, lane) ∈ evaluated ↔
              bank[lane].enabled = true
                ∧ ∀ column, j * w ≤ column → column < j * w + w →
                  bank[lane].coatedFirst ≤ column ∧ column ≤ bank[lane].coatedLast)
          ∧ held = { e with bins := held.bins }
          ∧ (∀ j, (∃ lane, (j, lane) ∈ evaluated) → held.bin j = e.bin j)
          ∧ after = evaluated.foldl (stepBin side position bank recipes cols) held
          ∧ ∀ j, (∀ lane, (j, lane) ∉ evaluated) → rests (held.bin j) ∧ rests (after.bin j)

/-- R113 to R122: the transitions of a bin at a new accumulator value: what starts a candidate, what holds it, when it is confirmed
with STREAK_OPEN (at once with min_streak_lines 1) or waits with one OVERFLOW, when a streak reports, and when it closes with reason
ENDED, after which a new candidate may start in the same line. (Log 29 says which min_streak_lines holds a waiting candidate; the sign
LIGHT and the zeros in the fields of a QUIET bin are the model's, log 16.) -/
def Obligations.BinTransitionsFollowAccumulator : Prop :=
  ∀ (e : Engine) (side : Side) (position : Position) (bank : LaneBank) (r : Recipe) (lane : LaneId) (j : Nat) (s : Int),
    let b := e.bin j
    let after :=
      e.transition { side := side, position := position, bank := bank, recipe := r, lane := lane, index := j } s
    let isTracked := fun sign : Polarity => (sign = .light ∧ r.lightEnable = true) ∨ (sign = .dark ∧ r.darkEnable = true)
    let signOf := fun sign : Polarity => (sign = .light ∧ 0 < s) ∨ (sign = .dark ∧ s < 0)
    let starts := fun sign : Polarity => signOf sign ∧ isTracked sign ∧ 16 * r.streakOn ≤ s.natAbs
    let holding := signOf b.sign ∧ isTracked b.sign ∧ 16 * r.streakOff ≤ s.natAbs
    let quiet : Bin :=
      { s := s, state := .quiet, sign := .light, start := 0, last := 0, length := 0, peak := 0, sinceReport := 0
        waiting := false }
    let started := fun sign : Polarity =>
      ({ s := s, state := .candidate, sign := sign, start := position, last := position, length := 1, peak := s
         sinceReport := 0, waiting := false } : Bin)
    let counted : Bin :=
      { b with
        s := s, last := position, length := min 65535 (b.length + 1)
        peak := if b.peak.natAbs < s.natAbs then s else b.peak }
    let fields := fun (x : Bin) (sign : Polarity) (start : Position) (lane : LaneId) =>
      ({ bin := j, firstColumn := j * e.binWidth, polarity := sign, start := start, length := x.length
         peakGrey := x.peak.tdiv 16, marker := bank[lane].marker } : StreakFields)
    let offered := fun (lane : LaneId) (at' : Position) (content : Content) (flag : Option Bool) =>
      plainOffer (.engine side) { side := some side, lane := some lane, position := at', content := content } flag
    -- The confirmation test of a candidate x whose holding line has been counted, at an engine d.
    let tested := fun (d : Engine) (x : Bin) (after : Engine) =>
      (x.length < r.minStreakLines → after = d.setBin j x)
        ∧ (r.minStreakLines ≤ x.length → d.streaks.length < 64 →
          after =
            { d.setBin j { x with state := .streak, waiting := false, sinceReport := 0 } with
              streaks := d.streaks ++ [{ bin := j, lane := lane, sign := x.sign, start := x.start }]
              recordList :=
                d.recordList
                  ++ [offered lane x.start (.streakOpen (fields x x.sign x.start lane)) (some r.markStreakOpen)] })
        ∧ (r.minStreakLines ≤ x.length → 64 ≤ d.streaks.length →
          after =
            { d.setBin j { x with waiting := true } with
              recordList :=
                if x.waiting then d.recordList
                else d.recordList ++ [offered lane position (.overflowStreaks j x.sign x.start) none] })
    -- A bin that holds no longer, or is QUIET, at an engine d.
    let restarts := fun (d : Engine) (after : Engine) =>
      ((∀ sign, ¬starts sign) → after = d.setBin j quiet) ∧ ∀ sign, starts sign → tested d (started sign) after
    (b.state = .quiet ∨ (b.state = .candidate ∧ ¬holding) → restarts e after)
      ∧ (b.state = .candidate → holding → tested e counted after)
      ∧ ∀ entry : StreakEntry, b.state = .streak → (e.streaks.find? fun x => x.bin = j) = some entry →
        let reported := fields counted entry.sign entry.start entry.lane
        let closed := fields b entry.sign entry.start entry.lane
        (holding → b.sinceReport < 65535 → r.reportLines = 0 ∨ b.sinceReport + 1 < r.reportLines →
            after = e.setBin j { counted with sinceReport := b.sinceReport + 1 })
          ∧ (holding → b.sinceReport < 65535 → 1 ≤ r.reportLines → r.reportLines ≤ b.sinceReport + 1 →
            after =
              { e.setBin j { counted with sinceReport := 0 } with
                recordList :=
                  e.recordList
                    ++ [offered entry.lane position (.streakContinue reported position) (some r.markStreakContinue)] })
          ∧ (¬holding →
            restarts
              { e with
                streaks := e.streaks.filter fun x => x.bin ≠ j
                recordList := e.recordList ++ [offered entry.lane b.last (.streakClose closed b.last .ended) none] }
              after)

/-! ### Side engines: the teach -/

/-- R82 to R84: a carried line of a teach adds each of its columns' max(r - d, 0) and is counted; with the last line the gain of
every column observed in at least n / 2 lines becomes min(8191, floor((4096 T + floor(avg / 2)) / avg)), or 8191 when avg is 0,
every other entry stays, TEACH_DONE reports the two numbers of columns, and the side is no longer teaching. -/
def Obligations.TeachAddsLinesAndSetsGains : Prop :=
  ∀ (e : Engine) (side : Side) (position : Position) (cols : List (Nat × Byte)) (k : Teach),
    e.teach = some k → (cols.Pairwise fun x y => x.1 < y.1) → sparseWf TeachColumn.zero k.columns = true →
    (∀ c ∈ cols, c.1 < 16384) → (∀ c ∈ k.columns, c.1 < 16384) →
    let total := fun column =>
      let old := sparseGet TeachColumn.zero k.columns column
      match cols.find? fun c => c.1 = column with
      | some c =>
        ({ sum := old.sum + (c.2.toNat - (e.calEntry column).dark), observed := old.observed + 1 } : TeachColumn)
      | none => old
    let after := e.stageTeach side position cols
    (k.taken + 1 ≠ k.n →
        ∃ columns,
          after = { e with teach := some { k with taken := k.taken + 1, columns := columns } }
            ∧ sparseWf TeachColumn.zero columns = true
            ∧ ∀ column, sparseGet TeachColumn.zero columns column = total column)
      ∧ (k.taken + 1 = k.n → 2 ≤ k.n → e.calibrationInRange →
        let taught := (List.range 16384).filter fun column => decide (k.n / 2 ≤ (total column).observed)
        ∃ cal,
          after =
              { e with
                teach := none, cal := cal
                recordList :=
                  e.recordList
                    ++ [plainOffer (.engine side)
                        { side := some side, lane := none, position := position,
                          content := .teachDone k.n k.target taught.length (16384 - taught.length) } none] }
            ∧ ∀ column,
              { e with cal := cal }.calEntry column =
                if k.n / 2 ≤ (total column).observed then
                  { dark := (e.calEntry column).dark
                    gain :=
                      let avg := (total column).sum / (total column).observed
                      if avg = 0 then 8191 else min 8191 ((4096 * k.target + avg / 2) / avg) }
                else e.calEntry column)

/-! ### Record store -/

/-- R128 to R130, R134, R159: the arbiter takes the front record of the first writer in the rotation that has one waiting, and
that writer goes to the last place; a full store evicts its oldest record, which a port standing on it counts lost; the record
is appended under the next sequence, and each port whose filter holds its class counts it. A port's stale timer stops when the eviction
takes its pending count to 0, and starts when the append raises it from 0. -/
def Obligations.AppendServesRotationAndCounts : Prop :=
  ∀ (s : State) (w : Writer) (o : Offer) (before after : List Writer),
    s.store.rotation = before ++ w :: after → w ∉ after → (∀ v ∈ before, s.front v = none) → s.front w = some o →
    s.store.records.length ≤ 2048 →
    ∃ t, exec .recordAppend s = .next t
      ∧ t.store.rotation = before ++ after ++ [w]
      ∧ t.store.nextSeq = s.store.nextSeq + 1
      ∧ t.store.oldestSeq = (if s.store.records.length = 2048 then s.store.oldestSeq + 1 else s.store.oldestSeq)
      ∧ t.store.records =
        (if s.store.records.length = 2048 then s.store.records.tail else s.store.records)
          ++ [{ seq := s.store.nextSeq, draft := o.draft }]
      ∧ (∀ pre post, s.store.waiting = pre ++ o :: post → o.writer = w → (∀ x ∈ pre, x.writer ≠ w) →
        t.eng = s.eng ∧ pre ++ post <+: t.store.waiting)
      ∧ (∀ side : Side, w = .engine side → (∀ x ∈ s.store.waiting, x.writer ≠ w) →
        (s.eng.get side).recordList.head? = some o
          ∧ t.eng = s.eng.set side { (s.eng.get side) with recordList := (s.eng.get side).recordList.tail }
          ∧ s.store.waiting <+: t.store.waiting)
      ∧ (∀ p : Port,
        let r := s.store.reading.get p
        let reads := r.filter.has o.draft.content.recordClass
        (s.store.records.length < 2048 →
            t.store.reading.get p = { r with pending := if reads then r.pending + 1 else r.pending }
              ∧ (t.ports.get p).raised.storeGap = (s.ports.get p).raised.storeGap
              ∧ (t.ports.get p).staleTimer =
                (if reads ∧ r.pending = 0 ∧ r.staleTime ≠ 0 then some (s.now + 1000 * r.staleTime)
                else (s.ports.get p).staleTimer))
          ∧ ∀ (x : Record) (rest : List Record), s.store.records = x :: rest → s.store.records.length = 2048 →
            let lost := r.filter.has x.draft.content.recordClass
            let left := if r.cursor = x.seq ∧ lost then r.pending - 1 else r.pending
            let timer := if r.cursor = x.seq ∧ lost ∧ left = 0 then none else (s.ports.get p).staleTimer
            t.store.reading.get p =
                { r with
                  cursor := if r.cursor = x.seq then x.seq + 1 else r.cursor
                  lost := if r.cursor = x.seq ∧ lost then min 65535 (r.lost + 1) else r.lost
                  pending := if reads then left + 1 else left }
              ∧ (t.ports.get p).raised.storeGap =
                ((s.ports.get p).raised.storeGap || decide (r.cursor = x.seq ∧ lost = true ∧ r.lost = 0))
              ∧ (t.ports.get p).staleTimer =
                (if reads ∧ left = 0 ∧ r.staleTime ≠ 0 then some (s.now + 1000 * r.staleTime) else timer))
      ∧ t.pos = s.pos ∧ t.heads = s.heads ∧ t.asm = s.asm ∧ t.lanes = s.lanes ∧ t.runState = s.runState
      ∧ t.now = s.now
      ∧ (o.flag ≠ some true → t.marks = s.marks)

/-- R131, R143 to R147: a defect record, appended with its governing flag set and a marker, yields a candidate at its position plus
the marker's distance, which is LATE when not ahead of the web position, MERGED into the nearest order of its marker within the merge
window, LOST when the schedule holds 64 orders, and otherwise PLACED as an order at its place in the schedule; LATE and LOST make their
record with MARK_TROUBLE. With the flag clear, or a marker of NONE, the record yields no candidate. -/
def Obligations.AppendedDefectPlacesOrder : Prop :=
  ∀ (s : State) (w : Writer) (o : Offer) (marker : Option MarkerId) (kind : DefectKind),
    s.nextWriter = some w → s.front w = some o →
    ((∃ last first' last' area peak lines flags,
        o.draft.content = .pinhole last first' last' area peak lines flags marker ∧ kind = .pinhole)
      ∨ (∃ f : StreakFields, o.draft.content = .streakOpen f ∧ f.marker = marker ∧ kind = .streakOpen)
      ∨ ∃ (f : StreakFields) (stop : Position),
        o.draft.content = .streakContinue f stop ∧ f.marker = marker ∧ kind = .streakContinue) →
    let untroubled := fun t : State =>
      ∀ q : Port, (t.ports.get q).raised.markTrouble = (s.ports.get q).raised.markTrouble
    let troubled := fun (t : State) (position : Position) (content : Content) =>
      t.marks = s.marks ∧ (∀ q : Port, (t.ports.get q).raised.markTrouble = true)
        ∧ t.store.waiting.getLast?
          = some
            (plainOffer .marks
              { side := o.draft.side, lane := o.draft.lane, position := position, content := content } none)
    ∃ t, exec .recordAppend s = .next t
      ∧ (o.flag ≠ some true ∨ marker = none → t.marks = s.marks ∧ untroubled t)
      ∧ ∀ k : MarkerId, o.flag = some true → marker = some k →
        let firePos := o.draft.position + BitVec.ofNat 32 (s.marker k).record.distance
        let fields : MarkFields :=
          { marker := k, firePos := firePos, source := some s.store.nextSeq, firstKind := some kind }
        let isAhead := ahead firePos s.pos.web
        let near := fun x : Order =>
          x.marker = k
            ∧ min (x.firePos - firePos).toNat (firePos - x.firePos).toNat ≤ (s.marker k).record.mergeWindow
        let new : Order :=
          { marker := k, firePos := firePos, source := some s.store.nextSeq, firstKind := some kind
            side := o.draft.side, lane := o.draft.lane, mergeCount := 0 }
        (isAhead = false → troubled t firePos (.late fields))
          ∧ (isAhead = true → ∀ pre x post, s.marks.orders = pre ++ x :: post → near x → (∀ y ∈ pre, ¬near y) →
            t.marks =
                { s.marks with orders := pre ++ { x with mergeCount := min 65535 (x.mergeCount + 1) } :: post }
              ∧ untroubled t)
          ∧ (isAhead = true → (∀ x ∈ s.marks.orders, ¬near x) → 64 ≤ s.marks.orders.length →
            troubled t firePos (.lost fields))
          ∧ (isAhead = true → (∀ x ∈ s.marks.orders, ¬near x) → s.marks.orders.length < 64 →
            ∃ pre post, s.marks.orders = pre ++ post ∧ t.marks = { s.marks with orders := pre ++ new :: post }
              ∧ untroubled t ∧ (∀ x ∈ pre, standsBefore s.pos.web new x = false)
              ∧ ∀ x, post.head? = some x → standsBefore s.pos.web new x = true)

/-- R134, R135, R159, R173, R174: READ_RECORDS examines the records from the cursor on, delivers those of the filter up to the
maximum with the gap and the pending count left, moves the cursor past the records examined, and acts on the notices and the stale
timer. A delivered record is 32 bytes: sequence, kind code, side, lane, presence and position, and from byte 12 on the fields of its
kind as `Content.layout` lists them, with zeros behind. -/
def Obligations.ReadRecordsDeliversFromCursor : Prop :=
  ∀ (s : State) (p : Port) (m : Byte), s.takes p → s.store.consecutive → s.store.countsTrue →
    let r := s.store.reading.get p
    let c := s.ports.get p
    let maximum := max 1 (min 16 m.toNat)
    let reads := fun x : Record => r.filter.has x.draft.content.recordClass
    ∃ passed examined left : List Record,
      s.store.records = passed ++ examined ++ left
        ∧ passed.length = (r.cursor - s.store.oldestSeq).toNat
        ∧ (examined.filter reads).length ≤ maximum
        ∧ (left ≠ [] → (examined.filter reads).length = maximum)
        ∧ ((examined.filter reads).length = maximum → ∃ x, examined.getLast? = some x ∧ reads x = true)
        ∧ let layout := fun x : Record =>
            let kind := x.draft.content.layout
            let side : Byte := match x.draft.side with | none => 2 | some .top => 0 | some .bottom => 1
            bytes4 x.seq.toNat ++ [kind.1, side, indexByte x.draft.lane, kind.2.1] ++ bytes4 x.draft.position.toNat
              ++ kind.2.2 ++ List.replicate (20 - kind.2.2.length) 0
          let delivered := examined.filter reads
          let pending := r.pending - delivered.length
          let response : Response :=
            { code := .ok
              body :=
                [if r.lost = 0 then 0 else 1] ++ bytes2 r.lost ++ [BitVec.ofNat 8 delivered.length]
                  ++ delivered.flatMap layout ++ bytes2 pending }
          (∀ x : Record, (layout x).length = 32) ∧ pending = (left.filter reads).length
            ∧ exec (.readRecords p [m]) s =
              .next
                { s with
                  store :=
                    { s.store with
                      reading :=
                        s.store.reading.set p
                          { r with
                            cursor := r.cursor + BitVec.ofNat 32 examined.length, pending := pending, lost := 0 } }
                  ports :=
                    s.ports.set p
                      { c with
                        dataOut := s.statusOut p :: List.replicate 3 0x00
                        shownStatus := none
                        phase := .responseHeld
                        held := some response
                        raised :=
                          { c.raised with
                            storeGap := decide (r.lost = 0) && c.raised.storeGap, recordsStale := false }
                        staleTimer :=
                          if pending = 0 then none
                          else if r.staleTime = 0 then c.staleTimer
                          else some (s.now + 1000 * r.staleTime) } }

/-- R137, R159: SET_FILTER sets the port's filter, trigger level and stale time and recounts its pending count, or is refused
RANGE for a filter of no class. -/
def Obligations.SetFilterRecountsPending : Prop :=
  ∀ (s : State) (p : Port) (f t1 t0 s1 s0 : Byte), s.takes p →
    let body := [f, t1, t0, s1, s0]
    let r := s.store.reading.get p
    let classes : ClassSet :=
      { defect := f.getLsbD 0, coverage := f.getLsbD 1, mark := f.getLsbD 2, event := f.getLsbD 3
        overflow := f.getLsbD 4 }
    let count :=
      (s.store.records.filter fun x =>
        atOrAhead x.seq r.cursor && classes.has x.draft.content.recordClass).length
    let staleTime := be16 s1 s0
    let answered := s.answered p 5 { code := .ok, body := [] }
    (f.toNat % 32 = 0 → exec (.setFilter p body) s = .next (s.refused p 5 .range))
      ∧ (f.toNat % 32 ≠ 0 →
        exec (.setFilter p body) s =
          .next
            { answered with
              store :=
                { s.store with
                  reading :=
                    s.store.reading.set p
                      { r with
                        filter := classes, trigger := max 1 (min 2048 (be16 t1 t0)), staleTime := staleTime
                        pending := count } }
              ports :=
                answered.ports.set p
                  { (answered.ports.get p) with
                    staleTimer :=
                      if staleTime = 0 ∨ count = 0 then none
                      else if r.pending = 0 then some (s.now + 1000 * staleTime)
                      else (s.ports.get p).staleTimer } })

/-- R138, R162: PORT_RESET returns the issuing port's reading state to its reset values with the cursor at the next sequence, and
clears its notices, fault cause and count, enables and stale timer; every other block and port is unchanged. -/
def Obligations.PortResetClearsIssuingPort : Prop :=
  ∀ (s : State) (p : Port), s.takes p →
    ∃ t, exec (.portReset p []) s = .next t ∧ t.attn p = false
      ∧ t =
        { s with
          store :=
            { s.store with
              reading :=
                s.store.reading.set p
                  { cursor := s.store.nextSeq
                    filter := { defect := true, coverage := true, mark := true, event := true, overflow := true }
                    pending := 0, lost := 0, trigger := 1, staleTime := 0 } }
          ports :=
            s.ports.set p
              { phase := .responseHeld
                held := some { code := .ok, body := [] }
                raised :=
                  { portFault := false, storeGap := false, runChange := false, headChange := false,
                    markTrouble := false, recordsStale := false }
                faultCause := none
                faultCount := 0
                enables :=
                  { portFault := false, storeGap := false, runChange := false, headChange := false,
                    markTrouble := false, recordsReady := false, recordsStale := false }
                staleTimer := none
                dataOut := [s.statusOut p, 0x00, 0x00]
                shownStatus := none } }

/-! ### Mark scheduler -/

/-- R145, R146: MARK places a manual candidate and answers the outcome: LATE, MERGED, LOST or PLACED, tested in that order, or is
refused RANGE for its index or for a position more than 16,777,215 counts ahead; in INIT it is discarded. -/
def Obligations.MarkPlacesManualCandidate : Prop :=
  ∀ (s : State) (p : Port) (i b3 b2 b1 b0 : Byte),
    let body := [i, b3, b2, b1, b0]
    let position : Position := BitVec.ofNat 32 (be32 b3 b2 b1 b0)
    let isAhead := ahead position s.pos.web
    let far := isAhead = true ∧ 16777215 < (position - s.pos.web).toNat
    let answered := fun outcome : Byte => s.answered p 5 { code := .ok, body := [outcome] }
    let troubled := fun (outcome : Byte) (content : Content) =>
      { answered outcome with
        ports := (answered outcome).ports.all PortState.withMarkTrouble
        store :=
          s.store.adding
            [plainOffer .marks { side := none, lane := none, position := position, content := content } none] }
    (s.runState = .init → exec (.mark p body) s = .next (s.transferred p 5))
      ∧ (s.takes p → 8 ≤ i.toNat ∨ far → exec (.mark p body) s = .next (s.refused p 5 .range))
      ∧ ∀ k : MarkerId, i = BitVec.ofNat 8 k.val → s.takes p → ¬far →
        let fields : MarkFields := { marker := k, firePos := position, source := none, firstKind := none }
        let near := fun x : Order =>
          x.marker = k
            ∧ min (x.firePos - position).toNat (position - x.firePos).toNat ≤ (s.marker k).record.mergeWindow
        (isAhead = false → exec (.mark p body) s = .next (troubled 2 (.late fields)))
          ∧ (isAhead = true → ∀ pre x post, s.marks.orders = pre ++ x :: post → near x → (∀ y ∈ pre, ¬near y) →
            exec (.mark p body) s =
              .next
                { answered 1 with
                  marks :=
                    { s.marks with
                      orders := pre ++ { x with mergeCount := min 65535 (x.mergeCount + 1) } :: post } })
          ∧ (isAhead = true → (∀ x ∈ s.marks.orders, ¬near x) → 64 ≤ s.marks.orders.length →
            exec (.mark p body) s = .next (troubled 3 (.lost fields)))
          ∧ (isAhead = true → (∀ x ∈ s.marks.orders, ¬near x) → s.marks.orders.length < 64 →
            let new : Order :=
              { marker := k, firePos := position, source := none, firstKind := none, side := none, lane := none
                mergeCount := 0 }
            ∃ pre post, s.marks.orders = pre ++ post
              ∧ exec (.mark p body) s =
                .next { answered 0 with marks := { s.marks with orders := pre ++ new :: post } }
              ∧ (∀ x ∈ pre, standsBefore s.pos.web new x = false)
              ∧ ∀ x, post.head? = some x → standsBefore s.pos.web new x = true)

/-- R140 to R142: SET_MARKER replaces a marker record whole and a change of mode acts on the output at once, after its refusals in
their order. -/
def Obligations.SetMarkerReplacesRecordAndActsOnOutput : Prop :=
  ∀ (s : State) (p : Port) (i d3 d2 d1 d0 p1 p0 w1 w0 t1 t0 m : Byte), s.takes p →
    let body := [i, d3, d2, d1, d0, p1, p0, w1, w0, t1, t0, m]
    let fits :=
      be32 d3 d2 d1 d0 ≤ 16777215 ∧ 1 ≤ be16 p1 p0 ∧ be16 p1 p0 ≤ 1000 ∧ be16 t1 t0 ≤ 2000 ∧ m.toNat ≤ 2
    (8 ≤ i.toNat ∨ ¬fits → exec (.setMarker p body) s = .next (s.refused p 12 .range))
      ∧ ∀ k : MarkerId, i = BitVec.ofNat 8 k.val → fits →
        let old := s.marker k
        let mode : MarkerMode := if m = 0 then .normal else if m = 1 then .inhibit else .force
        let busy := be16 w1 w0 ≠ old.record.mergeWindow ∧ ∃ x ∈ s.marks.orders, x.marker = k
        (busy → exec (.setMarker p body) s = .next (s.refused p 12 .busy))
          ∧ (¬busy →
            exec (.setMarker p body) s =
              .next
                { s.answered p 12 { code := .ok, body := [] } with
                  marks :=
                    { s.marks with
                      markers :=
                        s.marks.markers.set k
                          { old with
                            record :=
                              { distance := be32 d3 d2 d1 d0, pulseWidth := be16 p1 p0
                                mergeWindow := be16 w1 w0, confirmTimeout := be16 t1 t0, mode := mode }
                            output :=
                              if mode = old.record.mode then old.output
                              else if mode = .force then .forced
                              else if old.record.mode = .force then .idle
                              else old.output
                            pulseEnd :=
                              if mode = old.record.mode then old.pulseEnd
                              else if mode = .force ∨ old.record.mode = .force then none
                              else old.pulseEnd } } })

/-- R148 to R150: a forward count that reaches the fire position of an order removes the order and fires it as its marker's mode
directs: NORMAL pulses the output, opens, restarts or closes the confirm window and makes FIRED; INHIBIT makes SUPPRESSED and
does nothing else; FORCE makes FIRED with the forced flag, takes an idle output to FORCED and leaves the confirm window. A marker
with no order there is left as it stands. Beyond the markers and the schedule, the count leaves the part as it does when no order stands
there, with the records of the firings, one for each in ascending marker index, behind the others that wait. -/
def Obligations.OrderFiresAtItsPosition : Prop :=
  ∀ (s : State) (a b : Bool), ((s.pos.encA, s.pos.encB), a, b) ∈ forwardEdges →
    let fired := s.marks.orders.filter fun x => x.firePos = s.pos.web + 1
    let offered := fun o : Order =>
      let m := s.marker o.marker
      let fields : MarkFields := { marker := o.marker, firePos := o.firePos, source := o.source, firstKind := o.firstKind }
      plainOffer .marks
        { side := o.side, lane := o.lane, position := o.firePos,
          content :=
            match m.record.mode with
            | .normal => .fired fields o.mergeCount (decide (m.output = .pulsing)) false
            | .inhibit => .suppressed fields o.mergeCount
            | .force => .fired fields o.mergeCount false true } none
    ∃ u t, exec (.encoderEdge a b) { s with marks := { s.marks with orders := [] } } = .next u
      ∧ exec (.encoderEdge a b) s = .next t
      ∧ u.marks = { s.marks with orders := [] }
      ∧ (∃ made : List Offer,
        t = { u with marks := t.marks, store := u.store.adding made } ∧ made.length = fired.length
          ∧ (∀ x ∈ made, x.writer = .marks)
          ∧ ((fired.Pairwise fun x y => x.marker ≠ y.marker) → made = fired.map offered))
      ∧ (s.scheduleInOrder → fired.Pairwise fun x y => x.marker < y.marker)
      ∧ t.marks.orders = s.marks.orders.filter (fun x => x.firePos ≠ s.pos.web + 1)
      ∧ (∀ k : MarkerId, (∀ x ∈ s.marks.orders, x.firePos = s.pos.web + 1 → x.marker ≠ k) → t.marker k = s.marker k)
      ∧ ∀ (pre post : List Order) (o : Order), s.marks.orders = pre ++ o :: post → o.firePos = s.pos.web + 1 →
        (∀ x ∈ pre ++ post, x.firePos = s.pos.web + 1 → x.marker ≠ o.marker) →
        let m := s.marker o.marker
        let fields : MarkFields :=
          { marker := o.marker, firePos := o.firePos, source := o.source, firstKind := o.firstKind }
        let record := fun content : Content =>
          plainOffer .marks { side := o.side, lane := o.lane, position := o.firePos, content := content } none
            ∈ t.store.waiting
        (m.record.mode = .normal → m.output ≠ .forced →
            t.marker o.marker =
                { m with
                  output := .pulsing
                  pulseEnd := some (s.now + 100 * m.record.pulseWidth)
                  window :=
                    if m.record.confirmTimeout = 0 then none
                    else
                      some
                        { expiry := s.now + 1000 * m.record.confirmTimeout, firePos := o.firePos, source := o.source
                          firstKind := o.firstKind, side := o.side, lane := o.lane } }
              ∧ record (.fired fields o.mergeCount (decide (m.output = .pulsing)) false))
          ∧ (m.record.mode = .inhibit → t.marker o.marker = m ∧ record (.suppressed fields o.mergeCount))
          ∧ (m.record.mode = .force → m.output ≠ .pulsing →
            t.marker o.marker = { m with output := .forced } ∧ record (.fired fields o.mergeCount false true))

/-- R149, R151, R159: the pulse end releases the output, an MCF edge captures the web position and closes the window, the expiry
of a window makes UNCONFIRMED with MARK_TROUBLE, and the expiry of a stale timer raises RECORDS_STALE. (The clock is log 3 and
log 4.) -/
def Obligations.PulseConfirmAndStaleTimersAct : Prop :=
  ∀ (s : State) (k : MarkerId) (p : Port),
    let m := s.marker k
    let with' := fun (t : State) (m' : Marker) =>
      ({ t with marks := { s.marks with markers := s.marks.markers.set k m' } } : State)
    (∀ stop, m.pulseEnd = some stop →
        exec (.pulseEnd k) s = .next (with' (s.timeReached stop) { m with output := .idle, pulseEnd := none }))
      ∧ exec (.mcfEdge k) s =
        .next (with' s { m with prevCapture := m.capture, capture := s.pos.web, window := none })
      ∧ (∀ w : ConfirmWindow, m.window = some w →
        exec (.confirmWindowExpiry k) s =
          .next
            { with' (s.timeReached w.expiry) { m with window := none } with
              ports := s.ports.all PortState.withMarkTrouble
              store :=
                s.store.adding
                  [plainOffer .marks
                    { side := w.side, lane := w.lane, position := s.pos.web,
                      content :=
                        .unconfirmed
                          { marker := k, firePos := w.firePos, source := w.source, firstKind := w.firstKind } }
                    none] })
      ∧ ∀ expiry, (s.ports.get p).staleTimer = some expiry →
        exec (.staleTimerExpiry p) s =
          .next
            { s.timeReached expiry with
              ports :=
                s.ports.set p
                  { (s.ports.get p) with
                    raised := { (s.ports.get p).raised with recordsStale := true }, staleTimer := none } }

/-! ### Client ports -/

/-- R158, R160: ATTN is asserted exactly while a notice is both pending and enabled, at once under the enables that SET_NOTICES puts in
place of the port's; GET_NOTICE returns the highest pending enabled notice with the whole
set, the cause and count with PORT_FAULT, and clears PORT_FAULT, RUN_CHANGE or MARK_TROUBLE when it returns it. -/
def Obligations.NoticesAreEnabledAndReturned : Prop :=
  ∀ (s : State) (p : Port) (b : Byte),
    let c := s.ports.get p
    let r := s.store.reading.get p
    let fault := c.raised.portFault && c.enables.portFault
    let gap := c.raised.storeGap && c.enables.storeGap
    let run := c.raised.runChange && c.enables.runChange
    let head := c.raised.headChange && c.enables.headChange
    let mark := c.raised.markTrouble && c.enables.markTrouble
    let ready := decide (r.trigger ≤ r.pending) && c.enables.recordsReady
    let stale := c.raised.recordsStale && c.enables.recordsStale
    let code : Nat :=
      if fault then 1 else if gap then 2 else if run then 3 else if head then 4 else if mark then 5
      else if ready then 6 else if stale then 7 else 0
    let set :=
      fault.toNat + 2 * gap.toNat + 4 * run.toNat + 8 * head.toNat + 16 * mark.toNat + 32 * ready.toNat
        + 64 * stale.toNat
    let cause : Byte := match c.faultCause with | none => 0 | some .commandLost => 1 | some .frame => 2
    let set' := s.answered p 1 { code := .ok, body := [] }
    let got :=
      s.answered p 0
        { code := .ok
          body :=
            [BitVec.ofNat 8 code, BitVec.ofNat 8 set] ++ if fault then [cause, BitVec.ofNat 8 c.faultCount] else [] }
    let enabled : NoticeSet :=
      { portFault := b.getLsbD 0, storeGap := b.getLsbD 1, runChange := b.getLsbD 2, headChange := b.getLsbD 3
        markTrouble := b.getLsbD 4, recordsReady := b.getLsbD 5, recordsStale := b.getLsbD 6 }
    (s.attn p = true ↔ fault ∨ gap ∨ run ∨ head ∨ mark ∨ ready ∨ stale)
      ∧ (s.takes p →
        ∃ t, exec (.setNotices p [b]) s = .next t
          ∧ t = { set' with ports := set'.ports.set p { (set'.ports.get p) with enables := enabled } }
          ∧ (t.attn p = true ↔
            (c.raised.portFault ∧ b.getLsbD 0) ∨ (c.raised.storeGap ∧ b.getLsbD 1) ∨ (c.raised.runChange ∧ b.getLsbD 2)
              ∨ (c.raised.headChange ∧ b.getLsbD 3) ∨ (c.raised.markTrouble ∧ b.getLsbD 4)
              ∨ (r.trigger ≤ r.pending ∧ b.getLsbD 5) ∨ (c.raised.recordsStale ∧ b.getLsbD 6)))
      ∧ (s.takes p → exec (.getNotice p []) s =
        .next
          { got with
            ports :=
              got.ports.set p
                { (got.ports.get p) with
                  raised :=
                    { c.raised with
                      portFault := c.raised.portFault && decide (code ≠ 1)
                      runChange := c.raised.runChange && decide (code ≠ 3)
                      markTrouble := c.raised.markTrouble && decide (code ≠ 5) }
                  faultCause := if fault then none else c.faultCause
                  faultCount := if fault then 0 else c.faultCount } })

/-- R3, R36, R152, R161, R172: GET_HEAD, GET_MARKER and GET_STATUS answer what their blocks hold; GET_HEAD clears the port's
HEAD_CHANGE, GET_STATUS clears the encoder-fault flag, and an index above 7 is refused RANGE. (GET_STATUS gathers its parts at
one instant, log 8.) -/
def Obligations.QueriesReportState : Prop :=
  ∀ (s : State) (p : Port) (i : Byte), s.takes p →
    (8 ≤ i.toNat →
        exec (.getHead p [i]) s = .next (s.refused p 1 .range)
          ∧ exec (.getMarker p [i]) s = .next (s.refused p 1 .range))
      ∧ (∀ h : HeadId, i = BitVec.ofNat 8 h.val →
        let r := s.head h
        let g := r.geometry
        let state : Byte := match r.state with | .off => 0 | .absent => 1 | .live => 2 | .mute => 3
        let answered :=
          s.answered p 1
            { code := .ok
              body :=
                [i, boolByte g.enabled, sideByte g.side] ++ bytes2 g.windowStart ++ bytes2 g.windowWidth
                  ++ bytes2 g.columnOrigin ++ [if g.direction = .ascending then 0 else 1, state, boolByte r.linkUp]
                  ++ bytes2 r.misses ++ bytes2 r.counters.accepted.toNat ++ bytes2 r.counters.corrected.toNat
                  ++ bytes2 r.counters.uncorrectable.toNat ++ bytes2 r.counters.crc.toNat
                  ++ bytes2 r.counters.late.toNat ++ bytes2 r.counters.future.toNat
                  ++ bytes2 r.counters.badHeader.toNat }
        exec (.getHead p [i]) s =
          .next
            { answered with
              ports :=
                answered.ports.set p
                  { (answered.ports.get p) with
                    raised := { (s.ports.get p).raised with headChange := false } } })
      ∧ (∀ k : MarkerId, i = BitVec.ofNat 8 k.val →
        let m := s.marker k
        let mine := s.marks.orders.filter fun x => x.marker = k
        let mode : Byte := match m.record.mode with | .normal => 0 | .inhibit => 1 | .force => 2
        let output : Byte := match m.output with | .idle => 0 | .pulsing => 1 | .forced => 2
        exec (.getMarker p [i]) s =
          .next
            (s.answered p 1
              { code := .ok
                body :=
                  [i] ++ bytes4 m.record.distance ++ bytes2 m.record.pulseWidth ++ bytes2 m.record.mergeWindow
                    ++ bytes2 m.record.confirmTimeout ++ [mode, output, boolByte m.window.isSome]
                    ++ bytes4 m.capture.toNat ++ bytes4 m.prevCapture.toNat ++ bytes2 mine.length
                    ++ (match mine with | [] => [0, 0, 0, 0, 0] | x :: _ => 1 :: bytes4 x.firePos.toNat) }))
      ∧ let run : Byte := match s.runState with | .init => 0 | .standby => 1 | .inspecting => 2 | .stopping => 3
        let sideItems := fun side : Side =>
          let e := s.eng.get side
          bytes2 (s.asm.get side).slots.length ++ bytes2 (s.asm.get side).queue.length ++ bytes2 e.blobs.length
            ++ bytes2 e.streaks.length
            ++ (match e.teach with | none => [0, 0, 0, 0, 0] | some k => 1 :: (bytes2 k.n ++ bytes2 k.taken))
            ++ [bankByte (s.lanes.active.get side)]
        let switch : List Byte :=
          match s.lanes.switch with
          | none => [0xFF, 0, 0, 0, 0, 0, 0, 0]
          | some w =>
            [match w.mode with | .now => 0 | .atPosition => 1 | .atSplice => 2]
              ++ (match w.position with | none => [0, 0, 0, 0, 0] | some at' => 1 :: bytes4 at'.toNat)
              ++ [boolByte w.switched.top, boolByte w.switched.bottom]
        exec (.getStatus p []) s =
          .next
            { s.answered p 0
                { code := .ok
                  body :=
                    [run] ++ bytes4 s.pos.web.toNat ++ bytes4 s.pos.highWater.toNat
                      ++ bytes2 s.pos.lineNumber.toNat ++ [boolByte s.pos.encoderFault] ++ sideItems .top
                      ++ sideItems .bottom ++ switch ++ bytes4 s.store.oldestSeq.toNat
                      ++ bytes4 s.store.nextSeq.toNat ++ bytes2 s.marks.orders.length } with
              pos := { s.pos with encoderFault := false } }

/-- R154, R157, R171: a FETCH shifts out the status byte and the response frame, or the empty response NONE when none is held; the
response is discarded once its whole frame has been shifted out, and kept for another FETCH otherwise. The status byte is that of the
instant at which the chip select was asserted: the one shown then, where the port's status has changed since (InitEndEntersStandby and
LineOperationEndReleasesLine say when it is kept, log 6), and that of the port's state otherwise. The response is that of the port as
the FETCH is acted on (log 6). Bytes past the end, and those after the status byte in INIT, are free: the statement holds for every
value of them (log 7). -/
def Obligations.FetchShiftsOutResponse : Prop :=
  ∀ (s : State) (p : Port) (n : Nat),
    let c := s.ports.get p
    let status : Byte :=
      match c.shownStatus with
      | some shown => shown
      | none =>
        if s.runState = .init then 0xA0
        else
          match c.phase with
          | .idle => 0xA1
          | .executing => 0xA2
          | .responseHeld => 0xA3
    let shifted := fun frame : List Byte =>
      ({ s with
        freeDraws := s.freeDraws + (n - frame.length)
        ports :=
          s.ports.set p
            { c with
              dataOut :=
                status :: frame.take n
                  ++ (List.range (n - frame.length)).map fun i => Config.freeByte (s.freeDraws + i)
              shownStatus := none } } : State)
    s.statusOut p = status
      ∧ (s.runState = .init → exec (.fetch p n) s = .next (shifted []))
      ∧ (s.runState ≠ .init → c.phase ≠ .responseHeld →
        exec (.fetch p n) s = .next (shifted [0xFF, 0x00, 0x00]))
      ∧ ∀ response : Response, s.runState ≠ .init → c.phase = .responseHeld → c.held = some response →
        let code : Byte :=
          match response.code with
          | .ok => 0x00 | .state => 0x01 | .busy => 0x02 | .range => 0x03 | .overlap => 0x04 | .invalidMap => 0x05
          | .pending => 0x06 | .noHeads => 0x07 | .unknown => 0x08 | .length => 0x09 | .none => 0xFF
        let frame := code :: (bytes2 response.body.length ++ response.body)
        (n < 3 + response.body.length → exec (.fetch p n) s = .next (shifted frame))
          ∧ (3 + response.body.length ≤ n →
            exec (.fetch p n) s =
              .next
                { shifted frame with
                  ports :=
                    (shifted frame).ports.set p
                      { ((shifted frame).ports.get p) with phase := .idle, held := none } })

/-- R154, R155, R158: in INIT every whole command frame is discarded without a response; one that reaches an EXECUTING port is
lost with PORT_FAULT, cause COMMAND_LOST unless an earlier fault's cause stands, and the command in execution goes on. -/
def Obligations.CommandsAreDiscardedInInitAndLostInExecuting : Prop :=
  ∀ (s : State) (c : Instr) (p : Port) (body : List Byte), c.commandFrame = some (p, body) →
    let shifted := s.transferred p body.length
    (s.runState = .init → exec c s = .next shifted)
      ∧ (s.runState ≠ .init → (s.ports.get p).phase = .executing →
        let k := shifted.ports.get p
        exec c s =
          .next
            { shifted with
              ports :=
                shifted.ports.set p
                  { k with
                    raised := { k.raised with portFault := true }
                    faultCause := if k.raised.portFault then k.faultCause else some .commandLost
                    faultCount := if k.raised.portFault then min 255 (k.faultCount + 1) else 1 } })

/-- R154, R156, R158, R171, R172: the bytes of a transfer spell the command that their code byte names in the table of R171, with the
body that follows the length; 0x00 is a FETCH. A broken frame raises PORT_FAULT with cause FRAME and leaves the port's state; a code
that names no command is answered UNKNOWN; a body length that the command does not allow is answered LENGTH. -/
def Obligations.FrameCodeAndLengthAreChecked : Prop :=
  ∀ (s : State) (p : Port),
    let isBroken := fun rest : List Byte =>
      rest.length < 2 ∨ ∃ hi lo body, rest = hi :: lo :: body ∧ body.length ≠ 256 * hi.toNat + lo.toNat
    let codes : List Byte :=
      [0x10, 0x11, 0x12, 0x20, 0x21, 0x22, 0x23, 0x30, 0x31, 0x32, 0x33, 0x40, 0x41, 0x42, 0x50, 0x51, 0x60, 0x61,
        0x70, 0x71, 0x72, 0x73]
    (∀ body : List Byte, body.length < 65536 →
        let spells := fun (code : Byte) (i : Instr) =>
          transferCommand p (code :: (bytes2 body.length ++ body)) = some i
        spells 0x10 (.setHead p body) ∧ spells 0x11 (.getHead p body) ∧ spells 0x12 (.setLine p body)
          ∧ spells 0x20 (.setCal p body) ∧ spells 0x21 (.teach p body) ∧ spells 0x22 (.teachAbort p body)
          ∧ spells 0x23 (.setSide p body) ∧ spells 0x30 (.setRecipe p body) ∧ spells 0x31 (.setLane p body)
          ∧ spells 0x32 (.switchBank p body) ∧ spells 0x33 (.cancelSwitch p body) ∧ spells 0x40 (.setMarker p body)
          ∧ spells 0x41 (.mark p body) ∧ spells 0x42 (.getMarker p body) ∧ spells 0x50 (.readRecords p body)
          ∧ spells 0x51 (.setFilter p body) ∧ spells 0x60 (.start p body) ∧ spells 0x61 (.stop p body)
          ∧ spells 0x70 (.setNotices p body) ∧ spells 0x71 (.getNotice p body) ∧ spells 0x72 (.getStatus p body)
          ∧ spells 0x73 (.portReset p body)
          ∧ ∀ code, code ≠ 0 → code ∉ codes → spells code (.unknownCommand p code body))
      ∧ (∀ (code : Byte) (rest : List Byte), code ≠ 0 → isBroken rest →
        transferCommand p (code :: rest) = some (.badFrame p code rest))
      ∧ (∀ rest : List Byte, transferCommand p (0x00 :: rest) = some (.fetch p rest.length))
      ∧ (∀ (code : Byte) (rest : List Byte), s.runState ≠ .init → code ≠ 0 → isBroken rest →
        let k := s.ports.get p
        exec (.badFrame p code rest) s =
          .next
            { s with
              ports :=
                s.ports.set p
                  { k with
                    dataOut := s.statusOut p :: List.replicate rest.length 0x00
                    shownStatus := none
                    raised := { k.raised with portFault := true }
                    faultCause := if k.raised.portFault then k.faultCause else some .frame
                    faultCount := if k.raised.portFault then min 255 (k.faultCount + 1) else 1 } })
      ∧ (∀ (code : Byte) (body : List Byte), s.takes p → code ≠ 0 → code ∉ codes →
        exec (.unknownCommand p code body) s = .next (s.refused p body.length .unknown))
      ∧ ∀ (c : Instr) (body : List Byte), s.takes p → c.commandFrame = some (p, body) → c.lengthAllowed = false →
        exec c s = .next (s.refused p body.length .length)

/-! ### Run control -/

/-- R10, R33, R34, R65, R125, R164: START, after its refusals in their order: heads in MUTE return to LIVE with their HEAD_STATE
records and HEAD_CHANGE, miss counts and accumulators are cleared, a side without an enabled head changes over under a pending switch,
the divider is loaded, H becomes the web position, the SYNC trigger opens the slots of line 0, and the run state becomes INSPECTING
with a RUN record that waits for the other records of START. (That TOP changes over before BOTTOM is the model's, log 13.) -/
def Obligations.StartBeginsRun : Prop :=
  ∀ (s : State) (p : Port), s.takes p →
    let enabled := ∃ h : HeadId, (s.head h).geometry.enabled = true
    let clashes := fun bank : LaneBank =>
      ∃ i j : LaneId, i ≠ j ∧ bank[i].enabled = true ∧ bank[j].enabled = true
        ∧ bank[i].spanFirst ≤ bank[j].spanLast ∧ bank[j].spanFirst ≤ bank[i].spanLast
    let invalid :=
      ∃ side : Side, clashes (s.activeBank side)
        ∨ ∃ w : SwitchRecord, s.lanes.switch = some w ∧ w.switched.get side = false
          ∧ clashes ((s.lanes.banks.get side).get (w.target.get side))
    (s.runState ≠ .standby → exec (.start p []) s = .next (s.refused p 0 .state))
      ∧ (s.runState = .standby → ¬enabled → exec (.start p []) s = .next (s.refused p 0 .noHeads))
      ∧ (s.runState = .standby → enabled → invalid → exec (.start p []) s = .next (s.refused p 0 .invalidMap))
      ∧ (s.runState = .standby → enabled → ¬invalid → s.restsOutsideRuns →
        let muted := allHeads.filter fun h => decide ((s.head h).state = .mute)
        let changes := fun (w : SwitchRecord) (side : Side) => !w.switched.get side && !s.hasHead side
        let made :=
          (muted.map fun h =>
              plainOffer (.head h)
                { side := some (s.head h).geometry.side, lane := none, position := s.pos.web,
                  content := .headState h .mute .live .start } none)
            ++ (match s.lanes.switch with
              | some w =>
                ([.top, .bottom].filter (changes w)).map fun side =>
                  plainOffer .laneMap
                    { side := some side, lane := none, position := s.pos.web,
                      content := .bankSwitched (w.target.get side) w.mode } none
              | none => [])
        ∃ t, exec (.start p []) s = .next t ∧ t.runState = .inspecting
          ∧ t.pos =
            { s.pos with
              pitch := s.pos.pendingPitch.getD s.pos.pitch, pendingPitch := none
              divider := s.pos.pendingPitch.getD s.pos.pitch, highWater := s.pos.web, lineNumber := 0
              sinceTrigger := 0, trigPulses := s.pos.trigPulses + 1, syncPulses := s.pos.syncPulses + 1 }
          ∧ (∀ h : HeadId,
            t.head h =
              { (s.head h) with
                state := if (s.head h).state = .mute then .live else (s.head h).state
                misses :=
                  if (s.head h).state = .mute ∨ (s.head h).state = .live then 0 else (s.head h).misses })
          ∧ (∀ side : Side,
            (t.eng.get side).bins = [] ∧ (t.eng.get side).inFlight = none
              ∧ (s.hasHead side = false → (t.asm.get side).slots = [])
              ∧ (s.hasHead side = true →
                ∃ slot : Slot, (t.asm.get side).slots = [slot] ∧ slot.line = 0
                  ∧ slot.position = s.pos.web - BitVec.ofNat 32 (s.pos.offset.get side)
                  ∧ slot.deadline = s.now + (s.asm.get side).headWait ∧ slot.ready = false
                  ∧ ∀ h : HeadId,
                    slot.contributions[h] = none
                      ∧ (h ∈ slot.expected ↔ s.headOn side h = true ∧ (t.head h).state = .live)
                      ∧ (h ∈ slot.absent ↔ s.headOn side h = true ∧ (t.head h).state = .absent)))
          ∧ t.store.waiting =
            s.store.waiting ++ ofStep .startRecords made
              ++ ofStep .startRun
                [plainOffer .runControl
                  { side := none, lane := none, position := s.pos.web,
                    content := .run .standby .inspecting (some p) } none]
          ∧ (made ≠ [] → (∀ o ∈ s.store.waiting, o.writer ≠ .runControl) → t.front .runControl = none)
          ∧ (∀ side : Side,
            t.lanes.active.get side =
              match s.lanes.switch with
              | some w => if changes w side then w.target.get side else s.lanes.active.get side
              | none => s.lanes.active.get side)
          ∧ t.lanes.switch =
            (match s.lanes.switch with
            | some w =>
              let switched : PerSide Bool :=
                { top := w.switched.top || !s.hasHead .top, bottom := w.switched.bottom || !s.hasHead .bottom }
              if switched = { top := true, bottom := true } then none else some { w with switched := switched }
            | none => none)
          ∧ t.lanes.arrivals = s.lanes.arrivals
          ∧ (∀ q : Port,
            (t.ports.get q).raised.headChange = ((s.ports.get q).raised.headChange || !muted.isEmpty))
          ∧ (∀ q : Port, (t.ports.get q).raised.runChange = true
            ∧ (q ≠ p → (t.ports.get q).phase = (s.ports.get q).phase))
          ∧ (t.ports.get p).phase = .responseHeld ∧ (t.ports.get p).held = some { code := .ok, body := [] }
          ∧ t.marks = s.marks ∧ t.lanes.recipes = s.lanes.recipes ∧ t.lanes.banks = s.lanes.banks
          ∧ t.store.records = s.store.records)

/-- R12, R18, R128, R165, R166: STOP in INSPECTING closes an open skipped run and changes the run state to STOPPING; its RUN record
waits for the SKIPPED record. Where all four idle reports stand, the drain ends directly, and its records wait for this RUN record
(DrainEndClosesRun). -/
def Obligations.StopEndsTriggerIssue : Prop :=
  ∀ (s : State) (p : Port), s.takes p →
    let isIdle := fun side : Side =>
      (s.asm.get side).slots.isEmpty && (s.asm.get side).queue.isEmpty && (s.eng.get side).inFlight.isNone
    let run :=
      ofStep (if isIdle .top && isIdle .bottom then .stopRunIdle else .stopRun)
        [plainOffer .runControl
          { side := none, lane := none, position := s.pos.web, content := .run .inspecting .stopping (some p) } none]
    let skipped : List Offer :=
      match s.pos.skipped with
      | none => []
      | some k =>
        ofStep .stopRecords
          [plainOffer .positionUnit
            { side := none, lane := none, position := k.first, content := .skipped k.last k.count k.preceding } none]
    let answered := s.answered p 0 { code := .ok, body := [] }
    (s.runState ≠ .inspecting → exec (.stop p []) s = .next (s.refused p 0 .state))
      ∧ (s.runState = .inspecting →
        ∃ t, exec (.stop p []) s = .next t
          ∧ t =
            { answered with
              runState := .stopping
              ports := answered.ports.all PortState.withRunChange
              pos := { s.pos with skipped := none }
              store := s.store.adding (skipped ++ run) }
          ∧ (skipped ≠ [] → (∀ o ∈ s.store.waiting, o.writer ≠ .runControl) → t.front .runControl = none)
          ∧ (skipped = [] → (∀ o ∈ s.store.waiting, o.step = none ∧ o.writer ≠ .runControl) →
            t.front .runControl = run.head?))

/-- R51, R86, R103, R125, R166, R167: the end of drain closes every blob TRUNCATED, every streak with reason STOP, the open drop
and blind runs and a running teach, on TOP and BOTTOM, clears every bin, and changes the run state to STANDBY with a RUN record. The
arbiter takes the records of the steps in the order of the steps, those of STOP before them where STOP ended the drain directly, and
the RUN record last: a record stays back while one of an earlier step waits, and otherwise not. (The premise of the second clause:
no RUN record of an earlier end of drain still waits.) -/
def Obligations.DrainEndClosesRun : Prop :=
  (∀ s : State, s.runState = .stopping →
      (∀ side : Side,
        (s.asm.get side).slots = [] ∧ (s.asm.get side).queue = [] ∧ (s.eng.get side).inFlight = none
          ∧ (s.eng.get side).streaksOwned) →
      let both := fun f : Side → List Offer => f .top ++ f .bottom
      let heads : List HeadId := [0, 1, 2, 3, 4, 5, 6, 7]
      exec .drainEnd s =
        .next
          { s with
            runState := .standby
            eng :=
              { top := { s.eng.top with blobs := [], streaks := [], bins := [], teach := none }
                bottom := { s.eng.bottom with blobs := [], streaks := [], bins := [], teach := none } }
            asm :=
              { top := { s.asm.top with dropRun := none, blindRuns := Vector.replicate 8 none }
                bottom := { s.asm.bottom with dropRun := none, blindRuns := Vector.replicate 8 none } }
            ports := s.ports.all PortState.withRunChange
            store :=
              s.store.adding
                (ofStep .drainBlobs
                    (both fun side =>
                      pinholeRecords side (s.activeBank side) (s.eng.get side).recipes true false (s.eng.get side).blobs)
                  ++ ofStep .drainStreaks
                    (both fun side => (s.eng.get side).streakCloseRecords side (s.activeBank side) .stop)
                  ++ ofStep .drainCoverage (both fun side => s.dropRecords side ++ s.blindRecords side heads)
                  ++ ofStep .drainTeach (both fun side => (s.eng.get side).abortRecords side .stop s.pos.web)
                  ++ ofStep .drainRun
                    [plainOffer .runControl
                      { side := none, lane := none, position := s.pos.web, content := .run .stopping .standby none }
                      none]) })
    ∧ ∀ (s : State) (pre post : List Offer) (o : Offer) (n : Nat), s.store.waiting = pre ++ o :: post →
      (∀ x ∈ pre, x.writer ≠ o.writer ∧ x.step ≠ some .drainRun) → o.step.bind EventStep.drainPlace = some n →
      ((∃ x ∈ pre, ∃ m, x.step.bind EventStep.drainPlace = some m ∧ m < n) → s.front o.writer = none)
        ∧ (1 ≤ n → (∀ x ∈ pre, ∀ m, x.step.bind EventStep.drainPlace = some m → n ≤ m) →
          s.front o.writer = some o)

/-! ### Invariants: what every step keeps -/

/-- R127, R130, R134: every step keeps the store's sequence numbers consecutive and the pending counts true. -/
def Obligations.StepKeepsStoreConsecutive : Prop :=
  ∀ s t : State, s.store.consecutive → s.store.countsTrue → step s = .next t →
    t.store.consecutive ∧ t.store.countsTrue

/-- R40, R45, R66, R91, R119, R143, and R51, R71, R75, R103, R125: every step keeps the tables within their capacity, and the
part at rest outside runs. -/
def Obligations.StepKeepsCapacityAndRest : Prop :=
  (∀ s t : State, s.withinCapacity → step s = .next t → t.withinCapacity)
    ∧ ∀ s t : State, s.restsOutsideRuns → step s = .next t → t.restsOutsideRuns

/-- R77, R112, R115, R119: every step keeps the calibration tables and the accumulators of both sides in their ranges, and the bins in
STREAK owners of entries of the streak table. -/
def Obligations.StepKeepsEngineValuesInRange : Prop :=
  (∀ s t : State, (∀ side : Side, (s.eng.get side).calibrationInRange) → step s = .next t →
      ∀ side : Side, (t.eng.get side).calibrationInRange)
    ∧ (∀ s t : State, (∀ side : Side, (s.eng.get side).accumulatorsInRange) → step s = .next t →
      ∀ side : Side, (t.eng.get side).accumulatorsInRange)
    ∧ ∀ s t : State, (∀ side : Side, (s.eng.get side).streaksOwned) → step s = .next t →
      ∀ side : Side, (t.eng.get side).streaksOwned

/-- R5, R143, R146: every step keeps the web position at or behind H and within 2^30 counts of it, the orders of each marker further
apart than its merge window, and the orders of the schedule in ascending distance ahead of the web position and then marker index, each
ahead of it. (For the last, no order may stand at 2^31 - 1 counts ahead: a backward count then takes it out of the range that R143
gives, log 31.) -/
def Obligations.StepKeepsPositionsRelated : Prop :=
  (∀ s t : State, s.webBehindHighWater → step s = .next t → t.webBehindHighWater)
    ∧ (∀ s t : State, s.ordersApart → step s = .next t → t.ordersApart)
    ∧ ∀ s t : State, s.scheduleInOrder → (∀ o ∈ s.marks.orders, (o.firePos - s.pos.web).toNat ≠ 2 ^ 31 - 1) →
      step s = .next t → t.scheduleInOrder

/-- R30, R31, R142, R149, R155, R157: every step keeps each head's state in agreement with its geometry and link, each port's
response with its state, and each marker's output with its pulse end and mode. -/
def Obligations.StepKeepsStatesInAgreement : Prop :=
  (∀ s t : State, (∀ h : HeadId, (s.head h).stateFits) → step s = .next t → ∀ h : HeadId, (t.head h).stateFits)
    ∧ (∀ s t : State, (∀ p : Port, (s.ports.get p).responseFits) → step s = .next t →
      ∀ p : Port, (t.ports.get p).responseFits)
    ∧ ∀ s t : State, (∀ k : MarkerId, (s.marker k).outputFits) → step s = .next t →
      ∀ k : MarkerId, (t.marker k).outputFits
end

