-- ==== Sys2Proof/Laws/Ops.lean ====
section
/-! SUPPORT. Laws of the shared operations: one of two and one of three, one element of a vector, the lists indexed by
column or bin and their canonical form, and offering records. -/

namespace Sys2Proof.Machine

variable {α : Type}

/-! ### One of two, three, eight -/

@[simp] theorem PerSide.get_set_same (v : PerSide α) (side : Side) (x : α) : (v.set side x).get side = x := by
  cases side <;> rfl

theorem PerSide.get_set_ne (v : PerSide α) {side other : Side} (x : α) (h : other ≠ side) :
    (v.set side x).get other = v.get other := by
  cases side <;> cases other <;> first | rfl | exact absurd rfl h

/-- Everything a read after a write of one side can give. -/
theorem PerSide.get_set (v : PerSide α) (side other : Side) (x : α) :
    (v.set side x).get other = if other = side then x else v.get other := by
  cases side <;> cases other <;> rfl

@[simp] theorem PerSide.set_get (v : PerSide α) (side : Side) : v.set side (v.get side) = v := by
  cases side <;> rfl

@[simp] theorem PerSide.set_set (v : PerSide α) (side : Side) (x y : α) : (v.set side x).set side y = v.set side y := by
  cases side <;> rfl

@[simp] theorem PerPort.get_set_same (v : PerPort α) (p : Port) (x : α) : (v.set p x).get p = x := by
  cases p <;> rfl

theorem PerPort.get_set_ne (v : PerPort α) {p q : Port} (x : α) (h : q ≠ p) : (v.set p x).get q = v.get q := by
  cases p <;> cases q <;> first | rfl | exact absurd rfl h

/-- Everything a read after a write of one port can give. -/
theorem PerPort.get_set (v : PerPort α) (p q : Port) (x : α) :
    (v.set p x).get q = if q = p then x else v.get q := by
  cases p <;> cases q <;> rfl

@[simp] theorem PerPort.set_get (v : PerPort α) (p : Port) : v.set p (v.get p) = v := by
  cases p <;> rfl

@[simp] theorem PerPort.set_set (v : PerPort α) (p : Port) (x y : α) : (v.set p x).set p y = v.set p y := by
  cases p <;> rfl

/-- Everything a read after a change of one element can give. -/
theorem vecModify_get {n : Nat} (v : Vector α n) (i j : Fin n) (f : α → α) :
    (vecModify v i f)[j] = if j = i then f v[j] else v[j] := by
  by_cases h : j = i
  · subst h
    simp [vecModify]
  · have h' : (i : Nat) ≠ (j : Nat) := fun e => h (Fin.ext e.symm)
    simp [vecModify, h, h']

theorem State.head_modHead (s : State) (h g : HeadId) (f : Head → Head) :
    (s.modHead h f).head g = if g = h then f (s.head g) else s.head g := vecModify_get s.heads h g f

theorem State.marker_modMarker (s : State) (k j : MarkerId) (f : Marker → Marker) :
    (s.modMarker k f).marker j = if j = k then f (s.marker j) else s.marker j :=
  vecModify_get s.marks.markers k j f

/-! ### Lists indexed by column or bin -/

/-- Reading after a write: the value written at its index, and what was there before at every other. -/
theorem sparseGet_sparseSet [DecidableEq α] (d : α) (m : List (Nat × α)) (low k j : Nat) (v : α)
    (h : sparseWfFrom d low m = true) :
    sparseGet d (sparseSet d m k v) j = if j = k then v else sparseGet d m j := by
  have unlisted : ∀ (m : List (Nat × α)) (low j : Nat), sparseWfFrom d low m = true → j < low → sparseGet d m j = d := by
    intro m
    induction m with
    | nil => intro low j _ _; rfl
    | cons e rest ih =>
      intro low j hw hj
      simp only [sparseWfFrom, Bool.and_eq_true, decide_eq_true_eq] at hw
      simp only [sparseGet]
      rw [if_neg (by omega)]
      exact ih (e.1 + 1) j hw.2 (by omega)
  induction m generalizing low with
  | nil =>
    by_cases hv : v = d
    · simp [sparseSet, sparseGet, hv]
    · by_cases hj : j = k
      · simp [sparseSet, sparseGet, hv, hj]
      · simp [sparseSet, sparseGet, hv, hj, Ne.symm hj]
  | cons e rest ih =>
    obtain ⟨i, w⟩ := e
    simp only [sparseWfFrom, Bool.and_eq_true, decide_eq_true_eq] at h
    obtain ⟨⟨hlow, hw⟩, hrest⟩ := h
    have base : ∀ j, j ≤ i → sparseGet d rest j = d := fun j hj => unlisted rest (i + 1) j hrest (by omega)
    simp only [sparseSet]
    by_cases hki : k < i
    · rw [if_pos hki]
      by_cases hv : v = d
      · rw [if_pos hv]
        by_cases hj : j = k
        · subst hj
          simp only [sparseGet, if_true]
          rw [if_neg (by omega), base j (by omega), hv]
        · rw [if_neg hj]
      · rw [if_neg hv]
        by_cases hj : j = k
        · simp [sparseGet, hj]
        · simp [sparseGet, hj, Ne.symm hj]
    · rw [if_neg hki]
      by_cases hk : k = i
      · rw [if_pos hk]
        by_cases hv : v = d
        · rw [if_pos hv]
          by_cases hj : j = k
          · rw [if_pos hj, base j (by omega), hv]
          · rw [if_neg hj]
            simp only [sparseGet]
            rw [if_neg (by omega)]
        · rw [if_neg hv]
          by_cases hj : j = k
          · simp [sparseGet, hj]
          · simp only [sparseGet]
            rw [if_neg (Ne.symm hj), if_neg hj, if_neg (by omega)]
      · rw [if_neg hk]
        simp only [sparseGet]
        by_cases hij : i = j
        · rw [if_pos hij, if_pos hij, if_neg (by omega)]
        · rw [if_neg hij, if_neg hij]
          exact ih (i + 1) hrest

/-- A write keeps the canonical form. -/
theorem sparseWfFrom_sparseSet [DecidableEq α] (d : α) (m : List (Nat × α)) (low k : Nat) (v : α)
    (h : sparseWfFrom d low m = true) (hk : low ≤ k) : sparseWfFrom d low (sparseSet d m k v) = true := by
  have weaken : ∀ (m : List (Nat × α)) (a b : Nat), a ≤ b → sparseWfFrom d b m = true → sparseWfFrom d a m = true := by
    intro m a b hab hm
    cases m with
    | nil => rfl
    | cons e rest =>
      simp only [sparseWfFrom, Bool.and_eq_true, decide_eq_true_eq] at hm ⊢
      exact ⟨⟨by omega, hm.1.2⟩, hm.2⟩
  induction m generalizing low with
  | nil =>
    by_cases hv : v = d
    · simp [sparseSet, sparseWfFrom, hv]
    · simp [sparseSet, sparseWfFrom, hv, hk]
  | cons e rest ih =>
    obtain ⟨i, w⟩ := e
    simp only [sparseWfFrom, Bool.and_eq_true, decide_eq_true_eq] at h
    obtain ⟨⟨hlow, hw⟩, hrest⟩ := h
    simp only [sparseSet]
    by_cases hki : k < i
    · rw [if_pos hki]
      by_cases hv : v = d
      · rw [if_pos hv]
        simp [sparseWfFrom, hlow, hw, hrest]
      · rw [if_neg hv]
        simp [sparseWfFrom, hk, hv, hw, hrest, show k + 1 ≤ i by omega]
    · rw [if_neg hki]
      by_cases hke : k = i
      · rw [if_pos hke]
        by_cases hv : v = d
        · rw [if_pos hv]
          exact weaken rest low (i + 1) (by omega) hrest
        · rw [if_neg hv]
          subst hke
          simp [sparseWfFrom, hk, hv, hrest]
      · rw [if_neg hke]
        simp only [sparseWfFrom, Bool.and_eq_true, decide_eq_true_eq]
        exact ⟨⟨hlow, hw⟩, ih (i + 1) hrest (by omega)⟩

/-- A write keeps the canonical form of a whole list. -/
theorem sparseWf_sparseSet [DecidableEq α] (d : α) (m : List (Nat × α)) (k : Nat) (v : α) (h : sparseWf d m = true) :
    sparseWf d (sparseSet d m k v) = true := sparseWfFrom_sparseSet d m 0 k v h (Nat.zero_le k)

/-- Leaving entries out keeps the canonical form. -/
theorem sparseWfFrom_filter [DecidableEq α] (d : α) (p : Nat × α → Bool) (m : List (Nat × α)) (low : Nat)
    (h : sparseWfFrom d low m = true) : sparseWfFrom d low (m.filter p) = true := by
  have weaken : ∀ (m : List (Nat × α)) (a b : Nat), a ≤ b → sparseWfFrom d b m = true → sparseWfFrom d a m = true := by
    intro m a b hab hm
    cases m with
    | nil => rfl
    | cons e rest =>
      simp only [sparseWfFrom, Bool.and_eq_true, decide_eq_true_eq] at hm ⊢
      exact ⟨⟨by omega, hm.1.2⟩, hm.2⟩
  induction m generalizing low with
  | nil => rfl
  | cons e rest ih =>
    simp only [sparseWfFrom, Bool.and_eq_true, decide_eq_true_eq] at h
    simp only [List.filter_cons]
    split
    · simp only [sparseWfFrom, Bool.and_eq_true, decide_eq_true_eq]
      exact ⟨h.1, ih _ h.2⟩
    · exact weaken _ low (e.1 + 1) (by omega) (ih _ h.2)

/-- After a write every entry listed is the one written or one listed before. -/
theorem mem_sparseSet [DecidableEq α] (d : α) (m : List (Nat × α)) (k : Nat) (v : α) (e : Nat × α)
    (h : e ∈ sparseSet d m k v) : e = (k, v) ∨ e ∈ m := by
  induction m with
  | nil =>
    by_cases hv : v = d <;> simp_all [sparseSet]
  | cons x rest ih =>
    obtain ⟨i, w⟩ := x
    simp only [sparseSet] at h
    split at h <;> split at h <;> (try split at h) <;> simp_all <;> tauto

/-- A read gives the default or a value listed. -/
theorem sparseGet_mem (d : α) (m : List (Nat × α)) (k : Nat) : sparseGet d m k = d ∨ (k, sparseGet d m k) ∈ m := by
  induction m with
  | nil => exact .inl rfl
  | cons e rest ih =>
    obtain ⟨i, w⟩ := e
    by_cases h : i = k
    · right
      simp [sparseGet, h]
    · rcases ih with ih | ih
      · left
        simpa [sparseGet, h] using ih
      · right
        simp only [sparseGet, if_neg h]
        exact List.mem_cons_of_mem _ ih

/-! ### Offering several records -/

/-- R128: offering several records changes the waiting records alone, which grow by them in their order. -/
theorem State.offerAll_eq (s : State) (w : Writer) (made : List Made) :
    s.offerAll w made =
      { s with
        store :=
          { s.store with
            waiting :=
              s.store.waiting ++ made.map fun m => { writer := w, draft := m.1, flag := m.2, step := none } } } := by
  induction made generalizing s with
  | nil => simp [State.offerAll]
  | cons m rest ih =>
    have : s.offerAll w (m :: rest) = (s.offer w m.1 m.2).offerAll w rest := rfl
    rw [this, ih]
    simp [State.offer]

end Sys2Proof.Machine
end

