-- ==== Sys2Proof/Laws/Ports.lean ====
section
/-! SUPPORT. Laws of the command cycle: what taking a command frame does, once, and what a response or a refusal makes of a port
that has taken one; and what the field readers of the command bodies answer. -/

namespace Sys2Proof.Machine

/-! ### Taking a command -/

/-- R154: in INIT a command frame is shifted in and discarded. -/
theorem takeFrame_init (s : State) (p : Port) (len : Nat) (act : State → State) (h : s.runState = .init) :
    takeFrame p len act s = s.transferred p len := by
  cases p <;>
    simp [takeFrame, State.shiftFiller, State.shiftOut, State.modPort, State.transferred, h, Nat.add_comm]

/-- R155: at an EXECUTING port a command frame is lost. -/
theorem takeFrame_executing (s : State) (p : Port) (len : Nat) (act : State → State) (h : s.runState ≠ .init)
    (h' : (s.ports.get p).phase = .executing) :
    takeFrame p len act s = (s.transferred p len).portFault p .commandLost := by
  cases p <;>
    simp_all [takeFrame, State.shiftFiller, State.shiftOut, State.modPort, State.transferred, PerPort.get, PerPort.set,
      Nat.add_comm]

/-- R155: otherwise the port takes the command, and its block acts. -/
theorem takeFrame_taken (s : State) (p : Port) (len : Nat) (act : State → State) (h : s.takes p) :
    takeFrame p len act s = act (s.begun p len) := by
  obtain ⟨h1, h2⟩ := h
  cases p <;>
    simp_all [takeFrame, State.shiftFiller, State.shiftOut, State.modPort, PerPort.get, PerPort.set,
      State.beginCommand, State.begun, Nat.add_comm]

theorem State.refuse_begun (s : State) (p : Port) (len : Nat) (code : ResponseCode) :
    (s.begun p len).refuse p code = s.refused p len code := by
  cases p <;>
    simp [State.begun, State.refuse, State.respond, State.refused, State.answered, State.modPort, PerPort.get,
      PerPort.set, Response.only]

theorem State.respond_begun (s : State) (p : Port) (len : Nat) (r : Response) :
    (s.begun p len).respond p r = s.answered p len r := by
  cases p <;> simp [State.begun, State.respond, State.answered, State.modPort, PerPort.get, PerPort.set]

/-- R155, R156 check 4: a command that the port takes is answered LENGTH, or its block acts on the body that was read. -/
theorem takeCommand_taken {β : Type} (s : State) (p : Port) (body : List Byte) (read : List Byte → Option β)
    (act : β → State → State) (h : s.takes p) :
    takeCommand p body read act s =
      match read body with
      | none => s.refused p body.length .length
      | some b => act b (s.begun p body.length) := by
  rw [takeCommand, takeFrame_taken _ _ _ _ h]
  cases read body <;> simp [State.refuse_begun]

/-! ### Field readers -/

theorem be16_lt (hi lo : Byte) : be16 hi lo < 65536 := by
  have := hi.isLt
  have := lo.isLt
  simp only [be16]
  omega

theorem readIndex_ge {n : Nat} {b : Byte} (h : n ≤ b.toNat) : readIndex n b = none := by
  simp [readIndex, h]

theorem readIndex_ofNat {n : Nat} (i : Fin n) (h : n ≤ 256) : readIndex n (BitVec.ofNat 8 i.val) = some i := by
  have := i.isLt
  have e : i.val % 256 = i.val := Nat.mod_eq_of_lt (by omega)
  simp [readIndex, e]

theorem readIndex_eq_some {n : Nat} {b : Byte} {i : Fin n} (h : readIndex n b = some i) : b = BitVec.ofNat 8 i.val := by
  simp only [readIndex] at h
  split at h
  · cases h
    simp
  · cases h

@[simp] theorem readSide_sideByte (side : Side) : readSide (sideByte side) = some side := by
  cases side <;> rfl

@[simp] theorem readBank_bankByte (bank : Bank) : readBank (bankByte bank) = some bank := by
  cases bank <;> rfl

@[simp] theorem readMarkerOrNone_markerByte (k : Option MarkerId) : readMarkerOrNone (markerByte k) = some k := by
  revert k
  decide

theorem readSide_ge {b : Byte} (h : 2 ≤ b.toNat) : readSide b = none := by
  have h0 : b ≠ 0 := by rintro rfl; simp at h
  have h1 : b ≠ 1 := by rintro rfl; simp at h
  rw [readSide, if_neg h0, if_neg h1]

theorem readBank_ge {b : Byte} (h : 2 ≤ b.toNat) : readBank b = none := by
  have h0 : b ≠ 0 := by rintro rfl; simp at h
  have h1 : b ≠ 1 := by rintro rfl; simp at h
  rw [readBank, if_neg h0, if_neg h1]

end Sys2Proof.Machine
end

