-- ==== Sys2Proof/Laws/State.lean ====
section
/-! SUPPORT. What each field of the state is after each named update of it: one lemma per field and update, each true by
definition. -/

namespace Sys2Proof.Machine

variable (s : State)

/-! ### modPos -/

@[simp] theorem State.modPos_pending (f : PositionUnit → PositionUnit) : (s.modPos f).pending = s.pending := rfl
@[simp] theorem State.modPos_now (f : PositionUnit → PositionUnit) : (s.modPos f).now = s.now := rfl
@[simp] theorem State.modPos_freeDraws (f : PositionUnit → PositionUnit) : (s.modPos f).freeDraws = s.freeDraws := rfl
@[simp] theorem State.modPos_runState (f : PositionUnit → PositionUnit) : (s.modPos f).runState = s.runState := rfl
@[simp] theorem State.modPos_pos (f : PositionUnit → PositionUnit) : (s.modPos f).pos = f s.pos := rfl
@[simp] theorem State.modPos_heads (f : PositionUnit → PositionUnit) : (s.modPos f).heads = s.heads := rfl
@[simp] theorem State.modPos_asm (f : PositionUnit → PositionUnit) : (s.modPos f).asm = s.asm := rfl
@[simp] theorem State.modPos_eng (f : PositionUnit → PositionUnit) : (s.modPos f).eng = s.eng := rfl
@[simp] theorem State.modPos_lanes (f : PositionUnit → PositionUnit) : (s.modPos f).lanes = s.lanes := rfl
@[simp] theorem State.modPos_store (f : PositionUnit → PositionUnit) : (s.modPos f).store = s.store := rfl
@[simp] theorem State.modPos_marks (f : PositionUnit → PositionUnit) : (s.modPos f).marks = s.marks := rfl
@[simp] theorem State.modPos_ports (f : PositionUnit → PositionUnit) : (s.modPos f).ports = s.ports := rfl

/-! ### modHead -/

@[simp] theorem State.modHead_pending (h : HeadId) (f : Head → Head) : (s.modHead h f).pending = s.pending := rfl
@[simp] theorem State.modHead_now (h : HeadId) (f : Head → Head) : (s.modHead h f).now = s.now := rfl
@[simp] theorem State.modHead_freeDraws (h : HeadId) (f : Head → Head) :
    (s.modHead h f).freeDraws =
      s.freeDraws := rfl
@[simp] theorem State.modHead_runState (h : HeadId) (f : Head → Head) : (s.modHead h f).runState = s.runState := rfl
@[simp] theorem State.modHead_pos (h : HeadId) (f : Head → Head) : (s.modHead h f).pos = s.pos := rfl
@[simp] theorem State.modHead_heads (h : HeadId) (f : Head → Head) :
    (s.modHead h f).heads =
      vecModify s.heads h f := rfl
@[simp] theorem State.modHead_asm (h : HeadId) (f : Head → Head) : (s.modHead h f).asm = s.asm := rfl
@[simp] theorem State.modHead_eng (h : HeadId) (f : Head → Head) : (s.modHead h f).eng = s.eng := rfl
@[simp] theorem State.modHead_lanes (h : HeadId) (f : Head → Head) : (s.modHead h f).lanes = s.lanes := rfl
@[simp] theorem State.modHead_store (h : HeadId) (f : Head → Head) : (s.modHead h f).store = s.store := rfl
@[simp] theorem State.modHead_marks (h : HeadId) (f : Head → Head) : (s.modHead h f).marks = s.marks := rfl
@[simp] theorem State.modHead_ports (h : HeadId) (f : Head → Head) : (s.modHead h f).ports = s.ports := rfl

/-! ### modAsm -/

@[simp] theorem State.modAsm_pending (side : Side) (f : Assembler → Assembler) :
    (s.modAsm side f).pending =
      s.pending := rfl
@[simp] theorem State.modAsm_now (side : Side) (f : Assembler → Assembler) : (s.modAsm side f).now = s.now := rfl
@[simp] theorem State.modAsm_freeDraws (side : Side) (f : Assembler → Assembler) :
    (s.modAsm side f).freeDraws =
      s.freeDraws := rfl
@[simp] theorem State.modAsm_runState (side : Side) (f : Assembler → Assembler) :
    (s.modAsm side f).runState =
      s.runState := rfl
@[simp] theorem State.modAsm_pos (side : Side) (f : Assembler → Assembler) : (s.modAsm side f).pos = s.pos := rfl
@[simp] theorem State.modAsm_heads (side : Side) (f : Assembler → Assembler) :
    (s.modAsm side f).heads =
      s.heads := rfl
@[simp] theorem State.modAsm_asm (side : Side) (f : Assembler → Assembler) :
    (s.modAsm side f).asm =
      s.asm.set side (f (s.asm.get side)) := rfl
@[simp] theorem State.modAsm_eng (side : Side) (f : Assembler → Assembler) : (s.modAsm side f).eng = s.eng := rfl
@[simp] theorem State.modAsm_lanes (side : Side) (f : Assembler → Assembler) :
    (s.modAsm side f).lanes =
      s.lanes := rfl
@[simp] theorem State.modAsm_store (side : Side) (f : Assembler → Assembler) :
    (s.modAsm side f).store =
      s.store := rfl
@[simp] theorem State.modAsm_marks (side : Side) (f : Assembler → Assembler) :
    (s.modAsm side f).marks =
      s.marks := rfl
@[simp] theorem State.modAsm_ports (side : Side) (f : Assembler → Assembler) :
    (s.modAsm side f).ports =
      s.ports := rfl

/-! ### modEng -/

@[simp] theorem State.modEng_pending (side : Side) (f : Engine → Engine) :
    (s.modEng side f).pending =
      s.pending := rfl
@[simp] theorem State.modEng_now (side : Side) (f : Engine → Engine) : (s.modEng side f).now = s.now := rfl
@[simp] theorem State.modEng_freeDraws (side : Side) (f : Engine → Engine) :
    (s.modEng side f).freeDraws =
      s.freeDraws := rfl
@[simp] theorem State.modEng_runState (side : Side) (f : Engine → Engine) :
    (s.modEng side f).runState =
      s.runState := rfl
@[simp] theorem State.modEng_pos (side : Side) (f : Engine → Engine) : (s.modEng side f).pos = s.pos := rfl
@[simp] theorem State.modEng_heads (side : Side) (f : Engine → Engine) : (s.modEng side f).heads = s.heads := rfl
@[simp] theorem State.modEng_asm (side : Side) (f : Engine → Engine) : (s.modEng side f).asm = s.asm := rfl
@[simp] theorem State.modEng_eng (side : Side) (f : Engine → Engine) :
    (s.modEng side f).eng =
      s.eng.set side (f (s.eng.get side)) := rfl
@[simp] theorem State.modEng_lanes (side : Side) (f : Engine → Engine) : (s.modEng side f).lanes = s.lanes := rfl
@[simp] theorem State.modEng_store (side : Side) (f : Engine → Engine) : (s.modEng side f).store = s.store := rfl
@[simp] theorem State.modEng_marks (side : Side) (f : Engine → Engine) : (s.modEng side f).marks = s.marks := rfl
@[simp] theorem State.modEng_ports (side : Side) (f : Engine → Engine) : (s.modEng side f).ports = s.ports := rfl

/-! ### modLanes -/

@[simp] theorem State.modLanes_pending (f : LaneMap → LaneMap) : (s.modLanes f).pending = s.pending := rfl
@[simp] theorem State.modLanes_now (f : LaneMap → LaneMap) : (s.modLanes f).now = s.now := rfl
@[simp] theorem State.modLanes_freeDraws (f : LaneMap → LaneMap) : (s.modLanes f).freeDraws = s.freeDraws := rfl
@[simp] theorem State.modLanes_runState (f : LaneMap → LaneMap) : (s.modLanes f).runState = s.runState := rfl
@[simp] theorem State.modLanes_pos (f : LaneMap → LaneMap) : (s.modLanes f).pos = s.pos := rfl
@[simp] theorem State.modLanes_heads (f : LaneMap → LaneMap) : (s.modLanes f).heads = s.heads := rfl
@[simp] theorem State.modLanes_asm (f : LaneMap → LaneMap) : (s.modLanes f).asm = s.asm := rfl
@[simp] theorem State.modLanes_eng (f : LaneMap → LaneMap) : (s.modLanes f).eng = s.eng := rfl
@[simp] theorem State.modLanes_lanes (f : LaneMap → LaneMap) : (s.modLanes f).lanes = f s.lanes := rfl
@[simp] theorem State.modLanes_store (f : LaneMap → LaneMap) : (s.modLanes f).store = s.store := rfl
@[simp] theorem State.modLanes_marks (f : LaneMap → LaneMap) : (s.modLanes f).marks = s.marks := rfl
@[simp] theorem State.modLanes_ports (f : LaneMap → LaneMap) : (s.modLanes f).ports = s.ports := rfl

/-! ### modStore -/

@[simp] theorem State.modStore_pending (f : Store → Store) : (s.modStore f).pending = s.pending := rfl
@[simp] theorem State.modStore_now (f : Store → Store) : (s.modStore f).now = s.now := rfl
@[simp] theorem State.modStore_freeDraws (f : Store → Store) : (s.modStore f).freeDraws = s.freeDraws := rfl
@[simp] theorem State.modStore_runState (f : Store → Store) : (s.modStore f).runState = s.runState := rfl
@[simp] theorem State.modStore_pos (f : Store → Store) : (s.modStore f).pos = s.pos := rfl
@[simp] theorem State.modStore_heads (f : Store → Store) : (s.modStore f).heads = s.heads := rfl
@[simp] theorem State.modStore_asm (f : Store → Store) : (s.modStore f).asm = s.asm := rfl
@[simp] theorem State.modStore_eng (f : Store → Store) : (s.modStore f).eng = s.eng := rfl
@[simp] theorem State.modStore_lanes (f : Store → Store) : (s.modStore f).lanes = s.lanes := rfl
@[simp] theorem State.modStore_store (f : Store → Store) : (s.modStore f).store = f s.store := rfl
@[simp] theorem State.modStore_marks (f : Store → Store) : (s.modStore f).marks = s.marks := rfl
@[simp] theorem State.modStore_ports (f : Store → Store) : (s.modStore f).ports = s.ports := rfl

/-! ### modMarker -/

@[simp] theorem State.modMarker_pending (k : MarkerId) (f : Marker → Marker) :
    (s.modMarker k f).pending =
      s.pending := rfl
@[simp] theorem State.modMarker_now (k : MarkerId) (f : Marker → Marker) : (s.modMarker k f).now = s.now := rfl
@[simp] theorem State.modMarker_freeDraws (k : MarkerId) (f : Marker → Marker) :
    (s.modMarker k f).freeDraws =
      s.freeDraws := rfl
@[simp] theorem State.modMarker_runState (k : MarkerId) (f : Marker → Marker) :
    (s.modMarker k f).runState =
      s.runState := rfl
@[simp] theorem State.modMarker_pos (k : MarkerId) (f : Marker → Marker) : (s.modMarker k f).pos = s.pos := rfl
@[simp] theorem State.modMarker_heads (k : MarkerId) (f : Marker → Marker) : (s.modMarker k f).heads = s.heads := rfl
@[simp] theorem State.modMarker_asm (k : MarkerId) (f : Marker → Marker) : (s.modMarker k f).asm = s.asm := rfl
@[simp] theorem State.modMarker_eng (k : MarkerId) (f : Marker → Marker) : (s.modMarker k f).eng = s.eng := rfl
@[simp] theorem State.modMarker_lanes (k : MarkerId) (f : Marker → Marker) : (s.modMarker k f).lanes = s.lanes := rfl
@[simp] theorem State.modMarker_store (k : MarkerId) (f : Marker → Marker) : (s.modMarker k f).store = s.store := rfl
@[simp] theorem State.modMarker_marks (k : MarkerId) (f : Marker → Marker) :
    (s.modMarker k f).marks =
      { s.marks with markers := vecModify s.marks.markers k f } := rfl
@[simp] theorem State.modMarker_ports (k : MarkerId) (f : Marker → Marker) : (s.modMarker k f).ports = s.ports := rfl

/-! ### setOrders -/

@[simp] theorem State.setOrders_pending (orders : List Order) : (s.setOrders orders).pending = s.pending := rfl
@[simp] theorem State.setOrders_now (orders : List Order) : (s.setOrders orders).now = s.now := rfl
@[simp] theorem State.setOrders_freeDraws (orders : List Order) : (s.setOrders orders).freeDraws = s.freeDraws := rfl
@[simp] theorem State.setOrders_runState (orders : List Order) : (s.setOrders orders).runState = s.runState := rfl
@[simp] theorem State.setOrders_pos (orders : List Order) : (s.setOrders orders).pos = s.pos := rfl
@[simp] theorem State.setOrders_heads (orders : List Order) : (s.setOrders orders).heads = s.heads := rfl
@[simp] theorem State.setOrders_asm (orders : List Order) : (s.setOrders orders).asm = s.asm := rfl
@[simp] theorem State.setOrders_eng (orders : List Order) : (s.setOrders orders).eng = s.eng := rfl
@[simp] theorem State.setOrders_lanes (orders : List Order) : (s.setOrders orders).lanes = s.lanes := rfl
@[simp] theorem State.setOrders_store (orders : List Order) : (s.setOrders orders).store = s.store := rfl
@[simp] theorem State.setOrders_marks (orders : List Order) :
    (s.setOrders orders).marks =
      { s.marks with orders := orders } := rfl
@[simp] theorem State.setOrders_ports (orders : List Order) : (s.setOrders orders).ports = s.ports := rfl

/-! ### modPort -/

@[simp] theorem State.modPort_pending (p : Port) (f : PortState → PortState) :
    (s.modPort p f).pending =
      s.pending := rfl
@[simp] theorem State.modPort_now (p : Port) (f : PortState → PortState) : (s.modPort p f).now = s.now := rfl
@[simp] theorem State.modPort_freeDraws (p : Port) (f : PortState → PortState) :
    (s.modPort p f).freeDraws =
      s.freeDraws := rfl
@[simp] theorem State.modPort_runState (p : Port) (f : PortState → PortState) :
    (s.modPort p f).runState =
      s.runState := rfl
@[simp] theorem State.modPort_pos (p : Port) (f : PortState → PortState) : (s.modPort p f).pos = s.pos := rfl
@[simp] theorem State.modPort_heads (p : Port) (f : PortState → PortState) : (s.modPort p f).heads = s.heads := rfl
@[simp] theorem State.modPort_asm (p : Port) (f : PortState → PortState) : (s.modPort p f).asm = s.asm := rfl
@[simp] theorem State.modPort_eng (p : Port) (f : PortState → PortState) : (s.modPort p f).eng = s.eng := rfl
@[simp] theorem State.modPort_lanes (p : Port) (f : PortState → PortState) : (s.modPort p f).lanes = s.lanes := rfl
@[simp] theorem State.modPort_store (p : Port) (f : PortState → PortState) : (s.modPort p f).store = s.store := rfl
@[simp] theorem State.modPort_marks (p : Port) (f : PortState → PortState) : (s.modPort p f).marks = s.marks := rfl
@[simp] theorem State.modPort_ports (p : Port) (f : PortState → PortState) :
    (s.modPort p f).ports =
      s.ports.set p (f (s.ports.get p)) := rfl

/-! ### modReading -/

@[simp] theorem State.modReading_pending (p : Port) (f : Reading → Reading) :
    (s.modReading p f).pending =
      s.pending := rfl
@[simp] theorem State.modReading_now (p : Port) (f : Reading → Reading) : (s.modReading p f).now = s.now := rfl
@[simp] theorem State.modReading_freeDraws (p : Port) (f : Reading → Reading) :
    (s.modReading p f).freeDraws =
      s.freeDraws := rfl
@[simp] theorem State.modReading_runState (p : Port) (f : Reading → Reading) :
    (s.modReading p f).runState =
      s.runState := rfl
@[simp] theorem State.modReading_pos (p : Port) (f : Reading → Reading) : (s.modReading p f).pos = s.pos := rfl
@[simp] theorem State.modReading_heads (p : Port) (f : Reading → Reading) : (s.modReading p f).heads = s.heads := rfl
@[simp] theorem State.modReading_asm (p : Port) (f : Reading → Reading) : (s.modReading p f).asm = s.asm := rfl
@[simp] theorem State.modReading_eng (p : Port) (f : Reading → Reading) : (s.modReading p f).eng = s.eng := rfl
@[simp] theorem State.modReading_lanes (p : Port) (f : Reading → Reading) : (s.modReading p f).lanes = s.lanes := rfl
@[simp] theorem State.modReading_store (p : Port) (f : Reading → Reading) :
    (s.modReading p f).store =
      { s.store with reading := s.store.reading.set p (f (s.store.reading.get p)) } := rfl
@[simp] theorem State.modReading_marks (p : Port) (f : Reading → Reading) : (s.modReading p f).marks = s.marks := rfl
@[simp] theorem State.modReading_ports (p : Port) (f : Reading → Reading) : (s.modReading p f).ports = s.ports := rfl

/-! ### letPass -/

@[simp] theorem State.letPass_pending (d : Nat) : (s.letPass d).pending = s.pending := rfl
@[simp] theorem State.letPass_now (d : Nat) : (s.letPass d).now = s.now + d := rfl
@[simp] theorem State.letPass_freeDraws (d : Nat) : (s.letPass d).freeDraws = s.freeDraws := rfl
@[simp] theorem State.letPass_runState (d : Nat) : (s.letPass d).runState = s.runState := rfl
@[simp] theorem State.letPass_pos (d : Nat) :
    (s.letPass d).pos =
      { s.pos with sinceTrigger := satAdd Config.max16 s.pos.sinceTrigger d } := rfl
@[simp] theorem State.letPass_heads (d : Nat) : (s.letPass d).heads = s.heads := rfl
@[simp] theorem State.letPass_asm (d : Nat) : (s.letPass d).asm = s.asm := rfl
@[simp] theorem State.letPass_eng (d : Nat) : (s.letPass d).eng = s.eng := rfl
@[simp] theorem State.letPass_lanes (d : Nat) : (s.letPass d).lanes = s.lanes := rfl
@[simp] theorem State.letPass_store (d : Nat) : (s.letPass d).store = s.store := rfl
@[simp] theorem State.letPass_marks (d : Nat) : (s.letPass d).marks = s.marks := rfl
@[simp] theorem State.letPass_ports (d : Nat) : (s.letPass d).ports = s.ports := rfl

/-! ### offer -/

@[simp] theorem State.offer_pending (w : Writer) (d : Draft) (flag : Option Bool) :
    (s.offer w d flag).pending =
      s.pending := rfl
@[simp] theorem State.offer_now (w : Writer) (d : Draft) (flag : Option Bool) : (s.offer w d flag).now = s.now := rfl
@[simp] theorem State.offer_freeDraws (w : Writer) (d : Draft) (flag : Option Bool) :
    (s.offer w d flag).freeDraws =
      s.freeDraws := rfl
@[simp] theorem State.offer_runState (w : Writer) (d : Draft) (flag : Option Bool) :
    (s.offer w d flag).runState =
      s.runState := rfl
@[simp] theorem State.offer_pos (w : Writer) (d : Draft) (flag : Option Bool) : (s.offer w d flag).pos = s.pos := rfl
@[simp] theorem State.offer_heads (w : Writer) (d : Draft) (flag : Option Bool) :
    (s.offer w d flag).heads =
      s.heads := rfl
@[simp] theorem State.offer_asm (w : Writer) (d : Draft) (flag : Option Bool) : (s.offer w d flag).asm = s.asm := rfl
@[simp] theorem State.offer_eng (w : Writer) (d : Draft) (flag : Option Bool) : (s.offer w d flag).eng = s.eng := rfl
@[simp] theorem State.offer_lanes (w : Writer) (d : Draft) (flag : Option Bool) :
    (s.offer w d flag).lanes =
      s.lanes := rfl
@[simp] theorem State.offer_store (w : Writer) (d : Draft) (flag : Option Bool) :
    (s.offer w d flag).store =
      { s.store with waiting := s.store.waiting ++ [{ writer := w, draft := d, flag := flag, step := none }] } := rfl
@[simp] theorem State.offer_marks (w : Writer) (d : Draft) (flag : Option Bool) :
    (s.offer w d flag).marks =
      s.marks := rfl
@[simp] theorem State.offer_ports (w : Writer) (d : Draft) (flag : Option Bool) :
    (s.offer w d flag).ports =
      s.ports := rfl

/-! ### stepSince -/

@[simp] theorem State.stepSince_pending (n : Nat) (k : EventStep) : (s.stepSince n k).pending = s.pending := rfl
@[simp] theorem State.stepSince_now (n : Nat) (k : EventStep) : (s.stepSince n k).now = s.now := rfl
@[simp] theorem State.stepSince_freeDraws (n : Nat) (k : EventStep) : (s.stepSince n k).freeDraws = s.freeDraws := rfl
@[simp] theorem State.stepSince_runState (n : Nat) (k : EventStep) : (s.stepSince n k).runState = s.runState := rfl
@[simp] theorem State.stepSince_pos (n : Nat) (k : EventStep) : (s.stepSince n k).pos = s.pos := rfl
@[simp] theorem State.stepSince_heads (n : Nat) (k : EventStep) : (s.stepSince n k).heads = s.heads := rfl
@[simp] theorem State.stepSince_asm (n : Nat) (k : EventStep) : (s.stepSince n k).asm = s.asm := rfl
@[simp] theorem State.stepSince_eng (n : Nat) (k : EventStep) : (s.stepSince n k).eng = s.eng := rfl
@[simp] theorem State.stepSince_lanes (n : Nat) (k : EventStep) : (s.stepSince n k).lanes = s.lanes := rfl
@[simp] theorem State.stepSince_store (n : Nat) (k : EventStep) :
    (s.stepSince n k).store =
      { s.store with waiting := s.store.waiting.take n ++ (s.store.waiting.drop n).map fun o => { o with step := some k } } := rfl
@[simp] theorem State.stepSince_marks (n : Nat) (k : EventStep) : (s.stepSince n k).marks = s.marks := rfl
@[simp] theorem State.stepSince_ports (n : Nat) (k : EventStep) : (s.stepSince n k).ports = s.ports := rfl

/-! ### noteTransfer -/

@[simp] theorem State.noteTransfer_pending (p : Port) : (s.noteTransfer p).pending = s.pending := rfl
@[simp] theorem State.noteTransfer_now (p : Port) : (s.noteTransfer p).now = s.now := rfl
@[simp] theorem State.noteTransfer_runState (p : Port) : (s.noteTransfer p).runState = s.runState := rfl
@[simp] theorem State.noteTransfer_pos (p : Port) : (s.noteTransfer p).pos = s.pos := rfl
@[simp] theorem State.noteTransfer_heads (p : Port) : (s.noteTransfer p).heads = s.heads := rfl
@[simp] theorem State.noteTransfer_asm (p : Port) : (s.noteTransfer p).asm = s.asm := rfl
@[simp] theorem State.noteTransfer_eng (p : Port) : (s.noteTransfer p).eng = s.eng := rfl
@[simp] theorem State.noteTransfer_lanes (p : Port) : (s.noteTransfer p).lanes = s.lanes := rfl
@[simp] theorem State.noteTransfer_store (p : Port) : (s.noteTransfer p).store = s.store := rfl
@[simp] theorem State.noteTransfer_marks (p : Port) : (s.noteTransfer p).marks = s.marks := rfl
@[simp] theorem State.noteTransfer_freeDraws (p : Port) : (s.noteTransfer p).freeDraws = s.freeDraws + 1 := rfl
@[simp] theorem State.noteTransfer_ports (p : Port) :
    (s.noteTransfer p).ports =
      s.ports.set p
        { (s.ports.get p) with
          shownStatus :=
            (s.ports.get p).shownStatus.or
              (if Config.transferBegun s.freeDraws then some (s.statusByte p) else none) } := rfl

/-! ### shiftOut -/

@[simp] theorem State.shiftOut_pending (p : Port) (bytes : List Byte) :
    (s.shiftOut p bytes).pending =
      s.pending := rfl
@[simp] theorem State.shiftOut_now (p : Port) (bytes : List Byte) : (s.shiftOut p bytes).now = s.now := rfl
@[simp] theorem State.shiftOut_freeDraws (p : Port) (bytes : List Byte) :
    (s.shiftOut p bytes).freeDraws =
      s.freeDraws := rfl
@[simp] theorem State.shiftOut_runState (p : Port) (bytes : List Byte) :
    (s.shiftOut p bytes).runState =
      s.runState := rfl
@[simp] theorem State.shiftOut_pos (p : Port) (bytes : List Byte) : (s.shiftOut p bytes).pos = s.pos := rfl
@[simp] theorem State.shiftOut_heads (p : Port) (bytes : List Byte) : (s.shiftOut p bytes).heads = s.heads := rfl
@[simp] theorem State.shiftOut_asm (p : Port) (bytes : List Byte) : (s.shiftOut p bytes).asm = s.asm := rfl
@[simp] theorem State.shiftOut_eng (p : Port) (bytes : List Byte) : (s.shiftOut p bytes).eng = s.eng := rfl
@[simp] theorem State.shiftOut_lanes (p : Port) (bytes : List Byte) : (s.shiftOut p bytes).lanes = s.lanes := rfl
@[simp] theorem State.shiftOut_store (p : Port) (bytes : List Byte) : (s.shiftOut p bytes).store = s.store := rfl
@[simp] theorem State.shiftOut_marks (p : Port) (bytes : List Byte) : (s.shiftOut p bytes).marks = s.marks := rfl
@[simp] theorem State.shiftOut_ports (p : Port) (bytes : List Byte) :
    (s.shiftOut p bytes).ports =
      s.ports.set p { (s.ports.get p) with dataOut := s.statusOut p :: bytes, shownStatus := none } := rfl

/-! ### beginCommand -/

@[simp] theorem State.beginCommand_pending (p : Port) : (s.beginCommand p).pending = s.pending := rfl
@[simp] theorem State.beginCommand_now (p : Port) : (s.beginCommand p).now = s.now := rfl
@[simp] theorem State.beginCommand_freeDraws (p : Port) : (s.beginCommand p).freeDraws = s.freeDraws := rfl
@[simp] theorem State.beginCommand_runState (p : Port) : (s.beginCommand p).runState = s.runState := rfl
@[simp] theorem State.beginCommand_pos (p : Port) : (s.beginCommand p).pos = s.pos := rfl
@[simp] theorem State.beginCommand_heads (p : Port) : (s.beginCommand p).heads = s.heads := rfl
@[simp] theorem State.beginCommand_asm (p : Port) : (s.beginCommand p).asm = s.asm := rfl
@[simp] theorem State.beginCommand_eng (p : Port) : (s.beginCommand p).eng = s.eng := rfl
@[simp] theorem State.beginCommand_lanes (p : Port) : (s.beginCommand p).lanes = s.lanes := rfl
@[simp] theorem State.beginCommand_store (p : Port) : (s.beginCommand p).store = s.store := rfl
@[simp] theorem State.beginCommand_marks (p : Port) : (s.beginCommand p).marks = s.marks := rfl
@[simp] theorem State.beginCommand_ports (p : Port) :
    (s.beginCommand p).ports =
      s.ports.set p { (s.ports.get p) with phase := .executing, held := none } := rfl

/-! ### respond -/

@[simp] theorem State.respond_pending (p : Port) (r : Response) : (s.respond p r).pending = s.pending := rfl
@[simp] theorem State.respond_now (p : Port) (r : Response) : (s.respond p r).now = s.now := rfl
@[simp] theorem State.respond_freeDraws (p : Port) (r : Response) : (s.respond p r).freeDraws = s.freeDraws := rfl
@[simp] theorem State.respond_runState (p : Port) (r : Response) : (s.respond p r).runState = s.runState := rfl
@[simp] theorem State.respond_pos (p : Port) (r : Response) : (s.respond p r).pos = s.pos := rfl
@[simp] theorem State.respond_heads (p : Port) (r : Response) : (s.respond p r).heads = s.heads := rfl
@[simp] theorem State.respond_asm (p : Port) (r : Response) : (s.respond p r).asm = s.asm := rfl
@[simp] theorem State.respond_eng (p : Port) (r : Response) : (s.respond p r).eng = s.eng := rfl
@[simp] theorem State.respond_lanes (p : Port) (r : Response) : (s.respond p r).lanes = s.lanes := rfl
@[simp] theorem State.respond_store (p : Port) (r : Response) : (s.respond p r).store = s.store := rfl
@[simp] theorem State.respond_marks (p : Port) (r : Response) : (s.respond p r).marks = s.marks := rfl
@[simp] theorem State.respond_ports (p : Port) (r : Response) :
    (s.respond p r).ports =
      s.ports.set p { (s.ports.get p) with phase := .responseHeld, held := some r } := rfl

/-! ### portFault -/

@[simp] theorem State.portFault_pending (p : Port) (cause : FaultCause) :
    (s.portFault p cause).pending =
      s.pending := rfl
@[simp] theorem State.portFault_now (p : Port) (cause : FaultCause) : (s.portFault p cause).now = s.now := rfl
@[simp] theorem State.portFault_freeDraws (p : Port) (cause : FaultCause) :
    (s.portFault p cause).freeDraws =
      s.freeDraws := rfl
@[simp] theorem State.portFault_runState (p : Port) (cause : FaultCause) :
    (s.portFault p cause).runState =
      s.runState := rfl
@[simp] theorem State.portFault_pos (p : Port) (cause : FaultCause) : (s.portFault p cause).pos = s.pos := rfl
@[simp] theorem State.portFault_heads (p : Port) (cause : FaultCause) : (s.portFault p cause).heads = s.heads := rfl
@[simp] theorem State.portFault_asm (p : Port) (cause : FaultCause) : (s.portFault p cause).asm = s.asm := rfl
@[simp] theorem State.portFault_eng (p : Port) (cause : FaultCause) : (s.portFault p cause).eng = s.eng := rfl
@[simp] theorem State.portFault_lanes (p : Port) (cause : FaultCause) : (s.portFault p cause).lanes = s.lanes := rfl
@[simp] theorem State.portFault_store (p : Port) (cause : FaultCause) : (s.portFault p cause).store = s.store := rfl
@[simp] theorem State.portFault_marks (p : Port) (cause : FaultCause) : (s.portFault p cause).marks = s.marks := rfl
@[simp] theorem State.portFault_ports (p : Port) (cause : FaultCause) :
    (s.portFault p cause).ports =
      s.ports.set p ((s.ports.get p).fault cause) := rfl

end Sys2Proof.Machine
end

