-- ==== Sys2Proof/Laws/Records.lean ====
section
/-! SUPPORT. Laws of the records that wait: what a step of START, STOP or the end of drain does to the records made before it, what
the front record of a writer can be, and which writer the arbiter serves. -/

namespace Sys2Proof.Machine

/-- R164 to R167: a step whose action adds the records `made` marks these, and leaves those that waited as they are. -/
theorem State.inStep_of_adds {s t : State} {f : State → State} {made : List Offer} (step : EventStep) (hf : f s = t)
    (h : t.store.waiting = s.store.waiting ++ made) :
    s.inStep step f
      = { t with
          store := { t.store with waiting := s.store.waiting ++ made.map fun o => { o with step := some step } } } := by
  simp [State.inStep, State.stepSince, hf, h]

/-- R128, R164 to R167: the front record of a writer is the first it made of those that wait, which waits for no record made before
it; or, when none of its records waits in the store, the first of the record list of its line operation. -/
theorem State.front_cases {s : State} {w : Writer} {o : Offer} (h : s.front w = some o) :
    (∃ pre post, s.store.waiting = pre ++ o :: post ∧ o.writer = w ∧ (∀ x ∈ pre, x.writer ≠ w) ∧ o.held pre = false)
      ∨ (∀ x ∈ s.store.waiting, x.writer ≠ w) ∧ (s.lineRecords w).head? = some o := by
  unfold State.front at h
  split at h
  · rename_i x hx
    split at h
    · cases h
    · rename_i hheld
      cases h
      obtain ⟨hw, pre, post, hl, hpre⟩ := List.find?_eq_some_iff_append.mp hx
      have hne : ∀ y ∈ pre, y.writer ≠ w := fun y hy => by simpa using hpre y hy
      have htake : s.store.waiting.takeWhile (·.writer ≠ w) = pre := by
        rw [hl, List.takeWhile_append_of_pos fun y hy => by simpa using hne y hy]
        simp [of_decide_eq_true hw]
      rw [htake] at hheld
      exact .inl ⟨pre, post, hl, of_decide_eq_true hw, hne, by simpa using hheld⟩
  · rename_i hnone
    exact .inr ⟨fun x hx => by simpa using List.find?_eq_none.mp hnone x hx, h⟩

/-- R128: the writer served has a front record, and no writer that stands before it in the rotation has one. -/
theorem State.nextWriter_cases {s : State} {w : Writer} (h : s.nextWriter = some w) :
    ∃ before behind o, s.store.rotation = before ++ w :: behind ∧ (∀ v ∈ before, s.front v = none) ∧ s.front w = some o := by
  obtain ⟨hw, before, behind, hl, hb⟩ := List.find?_eq_some_iff_append.mp h
  obtain ⟨o, ho⟩ := Option.isSome_iff_exists.mp hw
  exact ⟨before, behind, o, hl, fun v hv => by simpa using hb v hv, ho⟩

end Sys2Proof.Machine
end

