-- ==== Sys2Proof/Tests/Slice0.lean ====
section
/-! SUPPORT. Tests. Each `test_…` runs one command on a small state and checks a few fields against the manual, whose example or
rule its comment names; each `witness_…` shows a state and operands that meet the hypotheses of the statement it names together,
clause by clause, at the boundary values where clauses meet. -/

namespace Sys2Proof.Tests

open Sys2Proof Sys2Proof.Machine

/-! ### Small states -/

/-- The state after a command. -/
def after (c : Instr) (s : State) : State :=
  match exec c s with
  | .next t => t
  | .fault _ => s
  | .refused _ => s

/-- STANDBY after reset. -/
def standby : State := { State.reset with runState := .standby }

/-- INSPECTING after reset. -/
def inspecting : State := { State.reset with runState := .inspecting }

/-- STOPPING after reset. -/
def stopping : State := { State.reset with runState := .stopping }

/-- A position unit that stands at a position, with H and a divider. -/
def at' (s : State) (web highWater : Position) (divider : Nat) : State :=
  { s with pos := { s.pos with web := web, highWater := highWater, divider := divider } }

/-- The example of 2.4: head 0 on TOP with four window pixels on columns 0 to 3, from payload pixel 1. -/
def narrow : Geometry :=
  { enabled := true, side := .top, windowStart := 1, windowWidth := 4, columnOrigin := 0, direction := .ascending }

/-- Head 0 with that geometry and a state. -/
def withHead (s : State) (new : HeadState) : State :=
  { s with
    heads :=
      s.heads.set 0 { (s.head 0) with geometry := narrow, state := new, linkUp := decide (new ≠ .absent ∧ new ≠ .off) } }

/-- A slot of TOP that expects head 0. -/
def slot (line : LineNo) (ready : Bool) : Slot :=
  { line := line, position := 100, expected := [0], absent := [], contributions := Vector.replicate 8 none
    deadline := 5000, ready := ready }

/-- TOP with these slots. -/
def withSlots (s : State) (slots : List Slot) : State :=
  { s with asm := s.asm.set .top { s.asm.top with slots := slots } }

/-- The header bytes of a LINE packet of head 0. -/
def headerBytes (line pixels : Nat) : List Byte := [0x10] ++ bytes2 line ++ bytes2 pixels

/-- The 40 header bits of a packet's first five bytes. -/
def headerBits (bytes : List Byte) : List Bool := (bytes.take 5).flatMap bitsOf

/-- A LINE packet of head 0 with its check byte and its CRC. -/
def packet (line : Nat) (payload : List Byte) : List Byte :=
  let header := headerBytes line payload.length
  header ++ [sentCheckByte (headerBits header)] ++ payload ++ bytes2 (crc16 payload).toNat

/-- A line at position 100 with four columns. -/
def line : LineEntry := { position := 100, cols := [(0, 10), (1, 20), (2, 30), (3, 41)], precedingDrop := none }

/-- TOP with this line waiting. -/
def withLine (s : State) (l : LineEntry) : State := { s with asm := s.asm.set .top { s.asm.top with queue := [l] } }

/-- TOP's engine changed. -/
def withEngine (s : State) (f : Engine → Engine) : State := { s with eng := s.eng.set .top (f s.eng.top) }

/-- A bank with lane 0 enabled on columns 0 to 31, coated from 2, with marker 3. -/
def bank0 : LaneBank :=
  LaneBank.powerOn.set 0
    { enabled := true, spanFirst := 0, spanLast := 31, coatedFirst := 2, coatedLast := 29, recipe := 0
      marker := some 3 }

/-- A switch that waits for both sides to change over to bank B. -/
def pendingSwitch (mode : SwitchMode) (position : Option Position) : SwitchRecord :=
  { mode := mode, position := position, attached := none, target := { top := .b, bottom := .b }
    switched := { top := false, bottom := false } }

/-- A pending switch. -/
def withSwitch (s : State) (w : SwitchRecord) : State := { s with lanes := { s.lanes with switch := some w } }

/-- An order of marker 2. -/
def order (firePos : Position) : Order :=
  { marker := 2, firePos := firePos, source := some 7, firstKind := some .pinhole, side := some .top, lane := some 0
    mergeCount := 0 }

/-- A schedule of these orders. -/
def withOrders (s : State) (orders : List Order) : State := { s with marks := { s.marks with orders := orders } }

/-- Marker 2 changed. -/
def withMarker (s : State) (f : Marker → Marker) : State := s.modMarker 2 f

/-- Port A changed. -/
def withPort (s : State) (f : PortState → PortState) : State := { s with ports := s.ports.set .a (f s.ports.a) }

/-- A SPLICE record of the position unit. -/
def spliceOffer : Offer :=
  plainOffer .positionUnit { side := none, lane := none, position := 5, content := .splice 0 none } none

/-- A record of class EVENT. -/
def record (seq : Seq) : Record := { seq := seq, draft := spliceOffer.draft }

/-- A record of class COVERAGE. -/
def droppedRecord (seq : Seq) : Record :=
  { seq := seq, draft := { side := some .top, lane := none, position := 9, content := .dropped 9 1 } }

/-- Three records held, of which port A's filter takes those of class EVENT. -/
def threeRecords : State :=
  { standby with
    store :=
      { standby.store with
        records := [record 0, droppedRecord 1, record 2], nextSeq := 3
        reading :=
          { a := { standby.store.reading.a with filter := { ClassSet.all with coverage := false }, pending := 2 }
            b := { standby.store.reading.b with pending := 3 }
            c := { standby.store.reading.c with cursor := 3 } } } }

/-! ### WellFormed: each check refuses an ill-formed term -/

theorem test_body_too_long_is_ill_formed {n : Nat} (h : 65536 ≤ n) :
    (Instr.start .a (List.replicate n 0)).wellFormed = false := by
  simpa [Instr.wellFormed, bodyFits] using h

theorem test_packet_without_crc_is_ill_formed : (Instr.completePacket 0 [0x10, 0, 0, 0, 1, 0, 7]).wellFormed = false := by
  decide

theorem test_abort_after_its_crc_is_ill_formed {n : Nat} (h : 65543 ≤ n) :
    (Instr.abortedPacket 0 (List.replicate n 0)).wellFormed = false := by
  simpa [Instr.wellFormed, abortFits] using h

theorem test_named_code_is_no_unknown_command : (Instr.unknownCommand .a 0x10 []).wellFormed = false := by
  decide

theorem test_whole_frame_is_no_bad_frame : (Instr.badFrame .a 0x10 [0, 1, 5]).wellFormed = false := by
  decide

theorem test_fetch_is_no_bad_frame : (Instr.badFrame .a 0x00 [0]).wellFormed = false := by
  decide

/-! ### The part as a whole -/

/-- 98_reader.md: no row has bits. -/
theorem test_no_word_spells_a_command : decodeTableWord 8 0x10 = none := by
  decide

theorem witness_StepTakesFrontCommand :
    ({ State.reset with pending := [.initEnd, .spliceEdge] } : State).pending = .initEnd :: [.spliceEdge] := by
  decide

theorem witness_IdleStepLetsOneMicrosecondPass : State.reset.pending = [] := by
  decide

theorem witness_ResetsSetEveryBlock : State.reset.runState = .init ∧ stopping.runState ≠ .init := by
  decide

/-- R168: the RESET pin in STOPPING keeps the recipes and enters STANDBY. -/
theorem test_reset_pin_keeps_recipes :
    (after (.resetPin true false)
        { stopping with lanes := { stopping.lanes with recipes := Vector.replicate 8 { Recipe.powerOn with shift := 7 } } }).lanes.recipes[3].shift
      = 7 := by
  decide

/-- R163: power-on loads them. -/
theorem test_power_on_loads_recipes :
    (after (.powerOn true false)
        { stopping with lanes := { stopping.lanes with recipes := Vector.replicate 8 { Recipe.powerOn with shift := 7 } } }).lanes.recipes[3].shift
      = 4 := by
  decide

theorem witness_InitEndEntersStandby : State.reset.runState = .init := by
  decide

/-- R163: the RUN record of the end of INIT. -/
theorem test_init_end_offers_run :
    (after .initEnd State.reset).store.waiting.map (·.draft.content) = [.run .init .standby none] := by
  decide

theorem witness_EventsThatDoNotOccurChangeNothing :
    standby.runState ≠ .init ∧ (standby.asm.get .top).queue = []
      ∧ (withEngine standby fun e => { e with inFlight := some line }).eng.top.inFlight.isSome = true
      ∧ (standby.eng.get .bottom).inFlight = none ∧ standby.store.waiting = []
      ∧ (standby.marker 7).pulseEnd = none ∧ (standby.marker 7).window = none
      ∧ (standby.ports.get .c).staleTimer = none
      ∧ (∀ x ∈ (standby.asm.get .top).slots, x.line ≠ 0) ∧ standby.runState ≠ .stopping
      ∧ ((withSlots stopping [slot 0 false]).asm.get .top).slots ≠ [] ∧ (0x73 : Byte) ∈ namedCodes
      ∧ isBadFrame 0x10 [0, 0] = false := by
  decide

/-! ### Position unit -/

theorem witness_ForwardCountMovesWeb : ((standby.pos.encA, standby.pos.encB), true, false) ∈ forwardEdges := by
  decide

/-- 1.3, R4: the count onto H is in the rewound zone; the next one advances. -/
theorem witness_DividerCountsAdvancingCountsAlone :
    ahead ((at' inspecting 9 10 3).pos.web + 1) (at' inspecting 9 10 3).pos.highWater = false
      ∧ ahead ((at' standby 10 10 3).pos.web + 1) (at' standby 10 10 3).pos.highWater = true
      ∧ (at' standby 10 10 3).runState ≠ .inspecting
      ∧ ahead ((at' inspecting 10 10 2).pos.web + 1) (at' inspecting 10 10 2).pos.highWater = true
      ∧ (at' inspecting 10 10 2).runState = .inspecting ∧ 2 ≤ (at' inspecting 10 10 2).pos.divider
      ∧ (∀ o ∈ (at' inspecting 10 10 2).marks.orders, o.firePos ≠ (at' inspecting 10 10 2).pos.web + 1) := by
  decide

/-- An underflow, with a holdoff and a time since trigger. -/
def underflow (holdoff since : Nat) : State :=
  { at' (withHead inspecting .live) 10 10 1 with
    pos := { (at' inspecting 10 10 1).pos with holdoff := holdoff, sinceTrigger := since } }

/-- An underflow that finds four open slots. -/
def fourSlots : State := withSlots (underflow 0 0) [slot 5 false, slot 6 true, slot 7 true, slot 8 false]

theorem witness_UnderflowIssuesOrSkipsTrigger :
    ((underflow 0 0).pos.encA, (underflow 0 0).pos.encB, true, false) = (false, false, true, false)
      ∧ (underflow 0 0).runState = .inspecting
      ∧ ahead ((underflow 0 0).pos.web + 1) (underflow 0 0).pos.highWater = true ∧ (underflow 0 0).pos.divider = 1
      ∧ (underflow 0 0).pos.holdoff = 0 ∧ (underflow 300 300).pos.holdoff ≤ (underflow 300 300).pos.sinceTrigger
      ∧ (underflow 300 299).pos.sinceTrigger < (underflow 300 299).pos.holdoff
      ∧ (underflow 300 299).marks.orders = [] ∧ (underflow 0 0).hasHead .top = true
      ∧ (underflow 0 0).hasHead .bottom = false ∧ (underflow 0 0).asm.top.slots.length ≤ 4
      ∧ fourSlots.asm.top.slots = slot 5 false :: [slot 6 true, slot 7 true, slot 8 false]
      ∧ [slot 6 true, slot 7 true, slot 8 false].length = 3 := by
  decide

/-- R40, R42: the forced closure of line 5 takes the READY slots of lines 6 and 7 with it, and the new slot stands behind line 8. -/
theorem test_forced_closure_cascades :
    (after (.encoderEdge true false) fourSlots).asm.top.slots.map (·.line) = [8, 1]
      ∧ (after (.encoderEdge true false) fourSlots).asm.top.queue.length = 3 := by
  decide

/-- R11, R13: the issued trigger opens the slot of the next line. -/
theorem test_underflow_opens_slot :
    (after (.encoderEdge true false) (underflow 300 300)).asm.top.slots.map (fun x => (x.line, x.position, x.deadline))
      = [(1, 11, 5000)] := by
  decide

/-- 1.5: a trigger inside the holdoff is skipped. -/
theorem test_underflow_skips_inside_holdoff :
    (after (.encoderEdge true false) (underflow 300 299)).pos.skipped
      = some { first := 11, last := 11, count := 1, preceding := 0 } := by
  decide

/-- 1.3, R5: exactly 2^30 counts behind H is no resync, one more is. -/
theorem witness_BackwardCountAndDeepRewind :
    ((false, true), standby.pos.encA, standby.pos.encB) ∈ forwardEdges
      ∧ ((at' standby 1 0x40000000 0).pos.highWater - ((at' standby 1 0x40000000 0).pos.web - 1)).toNat ≤ 2 ^ 30
      ∧ 2 ^ 30
        < ((at' standby 0 0x40000000 0).pos.highWater - ((at' standby 0 0x40000000 0).pos.web - 1)).toNat := by
  decide

/-- R2: a second illegal transition makes no second record. -/
theorem test_second_illegal_transition_is_silent :
    (after (.encoderEdge false false) (after (.encoderEdge true true) standby)).store.waiting.length = 1 := by
  decide

theorem witness_SpliceEdgeCapturesAndHandsOn :
    standby.runState = .standby ∧ stopping.runState = .stopping ∧ State.reset.runState = .init
      ∧ inspecting.runState = .inspecting := by
  decide

/-- R15, R62: the splice is attached to a switch that waits for one, and entered in both lists. -/
theorem test_splice_attaches_to_switch :
    (after .spliceEdge (withSwitch (at' inspecting 40 40 1) (pendingSwitch .atSplice none))).lanes.arrivals.bottom
      = [{ arrival := 40, capture := 40, attached := true }] := by
  decide

/-- R16, R171: the presence byte 0x09 marks pitch and head wait, at their greatest and least values; 4097 and an offset of 2^24 are out
of range. -/
theorem witness_SetLineAppliesPresentFields :
    standby.takes .a ∧ inspecting.takes .a ∧ (0x09 : Byte).getLsbD 0 = true ∧ (0x09 : Byte).getLsbD 3 = true
      ∧ (0x09 : Byte).getLsbD 2 = false ∧ (0x09 : Byte).getLsbD 4 = false ∧ (0x09 : Byte).getLsbD 5 = false
      ∧ (0x10 : Byte).getLsbD 4 = true ∧ be16 0x10 0x00 = 4096 ∧ be16 0x10 0x01 = 4097 ∧ be16 0x00 0x14 = 20
      ∧ be32 0x00 0xFF 0xFF 0xFF = 16777215 ∧ be32 0x01 0x00 0x00 0x00 = 16777216 ∧ inspecting.runState ≠ .standby := by
  refine ⟨⟨?_, ?_⟩, ⟨?_, ?_⟩, ?_⟩ <;> decide

/-- R8, R16: the pitch of SET_LINE is pending until it is loaded. -/
theorem test_set_line_leaves_pitch_pending :
    ((after (.setLine .a [0x01, 0x00, 0x20]) standby).pos.pitch,
        (after (.setLine .a [0x01, 0x00, 0x20]) standby).pos.pendingPitch) = (16, some 32) := by
  decide

/-- R16: an offset is refused STATE outside STANDBY. -/
theorem test_set_line_offset_refused_in_run :
    (after (.setLine .a [0x10, 0x00, 0x00, 0x00, 0x01]) inspecting).ports.a.held
      = some { code := .state, body := [] } := by
  decide

/-! ### Head links -/

theorem witness_LinkEventsMoveHead :
    ((withHead standby .live).head 0).linkUp = true ∧ ((withHead standby .live).head 0).state = .live
      ∧ (standby.head 0).linkUp = false ∧ (standby.head 0).state ≠ .absent
      ∧ ((withHead standby .absent).head 0).linkUp = false ∧ ((withHead standby .absent).head 0).state = .absent
      ∧ ((withHead standby .mute).head 0).linkUp = true ∧ ((withHead standby .mute).head 0).state = .mute
      ∧ ((after (.linkUp 1) standby).head 1).linkUp = true ∧ ((after (.linkUp 1) standby).head 1).state ≠ .live := by
  decide

/-- R31, R34: a link that comes up takes an ABSENT head to LIVE with a HEAD_STATE record. -/
theorem test_link_up_takes_absent_head_to_live :
    (after (.linkUp 0) (withHead standby .absent)).store.waiting.map (·.draft.content)
      = [.headState 0 .absent .live .linkUp] := by
  decide

/-- R31: a lost link takes a LIVE head to ABSENT. -/
theorem test_link_down_takes_live_head_to_absent :
    ((after (.linkDown 0) (withHead standby .live)).head 0).state = .absent := by
  decide

theorem witness_HeaderCodeCorrectsOneAndDetectsTwo : (headerBits (headerBytes 41 5)).length = 40 := by
  decide

/-- 12.1, R169, R170: byte 0 of head 0 is 0x10, and its only set bit, h4, stands at code position 7, so c0, c1 and c2 are set and
the parity bit makes the number of set bits even; bit 6 is then clear. -/
theorem test_check_byte_of_short_header : sentCheckByte (headerBits [0x10, 0, 0, 0, 0]) = 0x07 := by
  decide +kernel

/-- 12.1, R170: the check value of this CRC over the digits 1 to 9. -/
theorem test_crc_of_nine_digits : crc16 [0x31, 0x32, 0x33, 0x34, 0x35, 0x36, 0x37, 0x38, 0x39] = 0x29B1 := by
  decide +kernel

/-- R24: packets are examined; line 0 has an open slot, line 1 is ahead of the newest trigger, line 0xFFFF is behind it. -/
def gathering : State := withSlots (withHead inspecting .live) [slot 0 false]

theorem witness_PacketsNotAcceptedOnlyCount :
    ¬((standby.runState = .inspecting ∨ standby.runState = .stopping)
        ∧ ((standby.head 0).state = .live ∨ (standby.head 0).state = .mute))
      ∧ gathering.runState = .inspecting ∧ (gathering.head 0).state = .live
      ∧ checkHeader (headerBits (headerBytes 0 5)) (sentCheckByte (headerBits (headerBytes 0 5)))
        = .clean (headerBits (headerBytes 0 5))
      ∧ checkHeader (flipHeader (headerBits (headerBytes 0 5)) 0) (sentCheckByte (headerBits (headerBytes 0 5)))
        = .corrected (headerBits (headerBytes 0 5))
      ∧ checkHeader (flipHeader (flipHeader (headerBits (headerBytes 0 5)) 0) 39)
          (sentCheckByte (headerBits (headerBytes 0 5)))
        = .uncorrectable
      ∧ readHeader (headerBits (headerBytes 0 4096)) = { kind := 1, headId := 0, line := 0, pixelCount := 4096 }
      ∧ (readHeader (headerBits (headerBytes 0 4097))).pixelCount = 4097
      ∧ (gathering.asm.top.slots.find? fun x => x.line = 1) = none ∧ ahead (1 : LineNo) gathering.pos.lineNumber = true
      ∧ (gathering.asm.top.slots.find? fun x => x.line = 0xFFFF) = none
      ∧ ahead (0xFFFF : LineNo) gathering.pos.lineNumber = false
      ∧ ((after (.abortedPacket 0 (packet 0 [1, 2])) (withSlots gathering [slot 9 false, slot 0 false])).asm.top.slots.find?
          fun x => x.line = 0).any (fun x => x.contributions[(0 : HeadId)].isSome) = true := by
  decide +kernel

/-- R24: a packet ahead of the newest trigger is FUTURE. -/
theorem test_future_packet_counts :
    ((after (.completePacket 0 (packet 1 [1, 2])) gathering).head 0).counters.future = 1 := by
  decide +kernel

/-- R20: an aborted packet that ends before its check byte is discarded. -/
theorem test_abort_before_check_byte :
    ((after (.abortedPacket 0 [0x10, 0, 0, 0, 5]) gathering).head 0).counters = HeadCounters.zero := by
  decide

/-- The packet of line 0 is accepted behind line 9 and alone, of a LIVE head and of a MUTE one. -/
theorem gathering_accepts (before : List Slot) (h : before = [] ∨ before = [slot 9 false]) (new : HeadState)
    (hn : new = .live ∨ new = .mute) :
    (withSlots (withHead inspecting new) (before ++ [slot 0 false])).accepts 0 (packet 0 [9, 10, 20, 30, 40])
      (headerBits (headerBytes 0 5)) 0 ([9, 10, 20, 30, 40] ++ bytes2 (crc16 [9, 10, 20, 30, 40]).toNat) before
      (slot 0 false) [] := by
  refine ⟨.inl rfl, ?_, ⟨0x10, 0, 0, 0, 5, sentCheckByte (headerBits (headerBytes 0 5)), rfl, .inl ⟨?_, rfl⟩⟩, ?_⟩
  · obtain rfl | rfl := hn
    · exact .inl rfl
    · exact .inr rfl
  · decide +kernel
  · refine ⟨by decide, by decide, by decide, by decide, ?_, rfl, ?_, by decide⟩
    · obtain rfl | rfl := hn <;> rfl
    · obtain rfl | rfl := h
      · simp
      · simp only [List.mem_singleton, forall_eq]
        decide

theorem witness_AcceptedPacketJoinsItsSlot :
    (withSlots (withHead inspecting .mute) ([slot 9 false] ++ [slot 0 false])).accepts 0 (packet 0 [9, 10, 20, 30, 40])
        (headerBits (headerBytes 0 5)) 0 ([9, 10, 20, 30, 40] ++ bytes2 (crc16 [9, 10, 20, 30, 40]).toNat) [slot 9 false]
        (slot 0 false) []
      ∧ (slot 9 false).ready = false :=
  ⟨gathering_accepts _ (.inr rfl) .mute (.inr rfl), rfl⟩

theorem witness_CompletingPacketClosesLine :
    (withSlots (withHead inspecting .live) ([] ++ [slot 0 false])).accepts 0 (packet 0 [9, 10, 20, 30, 40])
        (headerBits (headerBytes 0 5)) 0 ([9, 10, 20, 30, 40] ++ bytes2 (crc16 [9, 10, 20, 30, 40]).toNat) []
        (slot 0 false) []
      ∧ ∀ c, ((slot 0 false).joinedBy 0 c).ready = true :=
  ⟨gathering_accepts _ (.inl rfl) .live (.inl rfl), fun _ => rfl⟩

/-- 2.4, R27, R39, R43: the completing packet closes the line with its window pixels. -/
theorem test_completing_packet_queues_line :
    (after (.completePacket 0 (packet 0 [9, 10, 20, 30, 40])) gathering).asm.top.queue
      = [{ position := 100, cols := [(0, 10), (1, 20), (2, 30), (3, 40)], precedingDrop := none }] := by
  decide +kernel

theorem witness_PayloadFallsOnWindowColumns :
    narrow.consistent = true
      ∧ (crc16 [9, 10, 20]).toNat = 256 * (BitVec.ofNat 8 ((crc16 [9, 10, 20]).toNat / 256)).toNat
        + (BitVec.ofNat 8 (crc16 [9, 10, 20]).toNat).toNat
      ∧ (crc16 [9, 10, 20]).toNat ≠ 256 * (0 : Byte).toNat + (0 : Byte).toNat := by
  decide +kernel

/-- R28: a descending window falls the other way. -/
theorem test_descending_window :
    pixelColumns { narrow with direction := .descending, columnOrigin := 3 } [7, 8] = [(2, 8), (3, 7)] := by
  decide

/-- A SET_HEAD body for head 1, TOP, with a width and an origin. -/
def headBody (index enabled : Byte) (width origin : Nat) : List Byte :=
  [index, enabled, 0, 0, 0] ++ bytes2 width ++ bytes2 origin ++ [0]

theorem witness_SetHeadReplacesGeometry :
    standby.takes .b ∧ inspecting.takes .b ∧ 8 ≤ (8 : Byte).toNat
      ∧ headBody 1 1 4096 12288 = [1, 1, 0, 0, 0, 0x10, 0x00, 0x30, 0x00, 0]
      ∧ be16 0x30 0x00 + be16 0x10 0x00 - 1 = 16383 ∧ be16 0x30 0x01 + be16 0x10 0x00 - 1 = 16384
      ∧ narrow.spanFirst ≤ 3 ∧ 3 ≤ narrow.spanLast ∧ (standby.head 1).state = .off := by
  refine ⟨⟨?_, ?_⟩, ⟨?_, ?_⟩, ?_⟩ <;> decide

/-- R29: a span that shares a column with an enabled head of the side is refused OVERLAP. -/
theorem test_set_head_overlap :
    (after (.setHead .b (headBody 1 1 4 3)) (withHead standby .live)).ports.b.held
      = some { code := .overlap, body := [] } := by
  decide

/-- R30: an enabled head whose link is DOWN becomes ABSENT. -/
theorem test_set_head_enables_absent :
    ((after (.setHead .b (headBody 1 1 4 4)) (withHead standby .live)).head 1).state = .absent := by
  decide

/-! ### Line assembly -/

theorem witness_WaitExpiryReadiesSlot :
    (withSlots inspecting [slot 0 true]).asm.top.slots = [] ++ slot 0 true :: []
      ∧ (withSlots inspecting [slot 9 false, slot 0 false]).asm.top.slots = [slot 9 false] ++ slot 0 false :: []
      ∧ (∀ x ∈ [slot 9 false], x.line ≠ 0) ∧ (slot 9 false).ready = false
      ∧ (withSlots inspecting [slot 0 false, slot 1 true]).asm.top.slots = [] ++ slot 0 false :: [slot 1 true]
      ∧ (slot 0 false).ready = false ∧ { slot 0 false with ready := true }.ready = true := by
  decide

/-- R32, R43: the third miss in a row takes a LIVE head to MUTE. -/
theorem test_wait_expiry_third_miss_mutes :
    ((after (.waitExpiry .top 0)
        (withSlots ((withHead inspecting .live).modHead 0 fun r => { r with misses := 2 }) [slot 0 false])).head
      0).state = .mute := by
  decide

/-- R48: a line in which the head gave nothing opens its blind run. -/
theorem test_wait_expiry_opens_blind_run :
    (after (.waitExpiry .top 0) (withSlots (withHead inspecting .live) [slot 0 false])).asm.top.blindRuns[(0 : HeadId)]
      = some { cause := .missing, first := 100, last := 100, count := 1 } := by
  decide

/-! ### Lane maps, recipes and changeover -/

/-- The SET_RECIPE body of the power-on recipe, with a streak_off. -/
def recipeBody (index off : Byte) : List Byte :=
  [index, 48, 4, 1, 0x07, 0xD0, 6, off, 4, 0x00, 0xC8, 0x00, 0x00, 0x17]

theorem witness_SetRecipeReplacesWholeRecipe :
    State.reset.runState = .init ∧ standby.takes .a ∧ recipeBody 7 6 = [7, 48, 4, 1, 7, 208, 6, 6, 4, 0, 200, 0, 0, 23]
      ∧ (6 : Byte).toNat ≤ (6 : Byte).toNat ∧ ¬(7 : Byte).toNat ≤ (6 : Byte).toNat ∧ 8 ≤ (8 : Byte).toNat
      ∧ (7 : Byte) = BitVec.ofNat 8 (7 : RecipeId).val ∧ be16 0x07 0xD0 = 2000 := by
  refine ⟨?_, ⟨?_, ?_⟩, ?_⟩ <;> decide

/-- R54: streak_off equal to streak_on is taken; one more is refused RANGE. -/
theorem test_set_recipe_streak_off :
    (after (.setRecipe .a (recipeBody 7 6)) standby).lanes.recipes[7].streakOff = 6
      ∧ (after (.setRecipe .a (recipeBody 7 7)) standby).ports.a.held = some { code := .range, body := [] } := by
  decide

/-- A SET_LANE body for bank B, TOP, lane 1 with a span from `first` on. -/
def laneBody (first : Nat) : List Byte :=
  [1, 0, 1, 1] ++ bytes2 first ++ bytes2 63 ++ bytes2 40 ++ bytes2 60 ++ [0, 0xFF]

/-- Bank B of TOP holds lane 0 on columns 0 to 31, and a switch waits for it. -/
def awaiting : State :=
  withSwitch { standby with lanes := { standby.lanes with banks := { standby.lanes.banks with top := { a := LaneBank.powerOn, b := bank0 } } } }
    (pendingSwitch .now none)

theorem witness_SetLaneReplacesLaneRecord :
    awaiting.takes .a ∧ laneBody 32 = [1, 0, 1, 1, 0, 32, 0, 63, 0, 40, 0, 60, 0, 0xFF]
      ∧ (1 : Byte) = bankByte .b ∧ (0 : Byte) = sideByte .top ∧ (1 : Byte) = BitVec.ofNat 8 (1 : LaneId).val
      ∧ ¬(awaiting.lanes.active.get .top = .b ∧ awaiting.runState ≠ .standby)
      ∧ (inspecting.lanes.active.get .top = .a ∧ inspecting.runState ≠ .standby) ∧ inspecting.takes .a
      ∧ (0xFF : Byte) = markerByte none ∧ awaiting.lanes.switch = some (pendingSwitch .now none)
      ∧ bank0[(0 : LaneId)].spanLast = 31 ∧ ¬be16 0 41 ≤ be16 0 40 := by
  refine ⟨⟨?_, ?_⟩, ?_, ?_, ?_, ?_, ?_, ?_, ⟨?_, ?_⟩, ?_⟩ <;> decide

/-- R57, R58: a record of the awaited bank that shares a span column is refused INVALID_MAP; beside it, it is taken. -/
theorem test_set_lane_in_awaited_bank :
    (after (.setLane .a (laneBody 31)) awaiting).ports.a.held = some { code := .invalidMap, body := [] }
      ∧ (after (.setLane .a (laneBody 32)) awaiting).ports.a.held = some { code := .ok, body := [] } := by
  decide

theorem witness_SwitchBankRequestsOrSwitches :
    standby.takes .a ∧ 3 ≤ (3 : Byte).toNat ∧ awaiting.lanes.switch.isSome = true ∧ standby.lanes.switch = none
      ∧ standby.targetsValid = true ∧ standby.restsOutsideRuns ∧ inspecting.takes .a
      ∧ inspecting.runState ≠ .standby := by
  refine ⟨⟨?_, ?_⟩, ?_, ?_, ?_, ?_, ?_, ⟨?_, ?_⟩, ?_⟩
  case refine_7 => intro side; cases side <;> decide
  all_goals decide

/-- R60: two overlapping lanes of an inactive bank make the map invalid. -/
def overlapping : State :=
  { standby with
    lanes :=
      { standby.lanes with
        banks :=
          { standby.lanes.banks with
            top := { a := LaneBank.powerOn, b := bank0.set 1 { bank0[0] with spanFirst := 31, coatedFirst := 31, spanLast := 40, coatedLast := 40 } } } } }

theorem test_switch_to_invalid_bank :
    (after (.switchBank .a [0, 0, 0, 0, 0]) overlapping).ports.a.held = some { code := .invalidMap, body := [] } := by
  decide

/-- R60: NOW in STANDBY changes both sides over at once. -/
theorem test_switch_now_in_standby :
    (after (.switchBank .a [0, 0, 0, 0, 0]) standby).lanes.active = { top := .b, bottom := .b }
      ∧ (after (.switchBank .a [0, 0, 0, 0, 0]) standby).lanes.switch = none := by
  decide

theorem witness_CancelSwitchRemovesRequest :
    standby.takes .a ∧ standby.lanes.switch = none ∧ awaiting.takes .a ∧ awaiting.lanes.switch.isSome = true := by
  refine ⟨⟨?_, ?_⟩, ?_, ⟨?_, ?_⟩, ?_⟩ <;> decide

theorem test_cancel_switch_without_request :
    (after (.cancelSwitch .a []) standby).ports.a.held = some { code := .state, body := [] } := by
  decide

/-- A line waits at TOP, a snapshot stands, and a switch or an arrival may be due at position 100. -/
def changing (w : SwitchRecord) (entries : List ArrivalEntry) : State :=
  let s := withSwitch (withEngine (withLine inspecting line) fun e => { e with snapshot := some Recipes.powerOn }) w
  { s with lanes := { s.lanes with arrivals := { s.lanes.arrivals with top := entries } } }

/-- An attached arrival at the line's position. -/
def arrival : ArrivalEntry := { arrival := 100, capture := 60, attached := true }

/-- R66: an attached splice that only BOTTOM's list took. -/
def refusedAtTop : SwitchRecord :=
  { pendingSwitch .atSplice (some 100) with attached := some { top := false, bottom := true } }

/-- R63: each condition of a changeover at its boundary, and each not met. -/
theorem witness_TakeChangesSideOver :
    (changing (pendingSwitch .now none) []).eng.top.inFlight = none ∧ (changing refusedAtTop []).eng.top.held = []
      ∧ (changing refusedAtTop []).asm.top.queue = [line]
      ∧ (changing (pendingSwitch .now none) []).lanes.switch = some (pendingSwitch .now none)
      ∧ (pendingSwitch .now none).switched.get .top = false
      ∧ (changing (pendingSwitch .now none) []).eng.top.snapshot = some Recipes.powerOn
      ∧ atOrAhead line.position 100 = true ∧ atOrAhead line.position 101 = false
      ∧ refusedAtTop.attached = some { top := false, bottom := true } ∧ arrival.attached = true
      ∧ (changing (pendingSwitch .atSplice none) [arrival]).lanes.arrivals.top = [arrival]
      ∧ [arrival, { arrival with arrival := 101 }].takeWhile (fun x => atOrAhead line.position x.arrival) = [arrival]
      ∧ (changing (pendingSwitch .now none) []).eng.top.streaksOwned
      ∧ ({ pendingSwitch .now none with switched := { top := true, bottom := false } } : SwitchRecord).switched
        = ({ top := false, bottom := false } : PerSide Bool).set .top true := by
  refine ⟨?_, ?_, ?_, ?_, ?_, ?_, ?_, ?_, ?_, ?_, ?_, ?_, ⟨?_, ?_⟩, ?_⟩ <;> decide

/-- R67, R70, R86: the attached arrival, the changeover it brings, and the end of the teach, in this order. -/
theorem test_take_serves_attached_arrival :
    (after (.lineTake .top)
        (withEngine (changing (pendingSwitch .atSplice (some 100)) [arrival]) fun e =>
          { e with teach := some { n := 16, target := 9, taken := 5, columns := [] } })).eng.top.recordList.map
        (·.draft.content)
      = [.spliceArrived 60 100 true, .bankSwitched .b .atSplice, .teachAborted .splice 16 5] := by
  decide +kernel

/-- R63, R64: a take at the switch position changes the side over. -/
theorem test_take_at_switch_position :
    (after (.lineTake .top) (changing (pendingSwitch .atPosition (some 100)) [])).lanes.active.top = .b := by
  decide

/-! ### Side engines -/

theorem witness_LineTakeRunsOperation :
    (withLine inspecting line).eng.top.inFlight = none ∧ (withLine inspecting line).eng.top.held = []
      ∧ (withLine inspecting line).asm.top.queue = line :: [] := by
  decide

/-- Bank A of TOP is in use with lane 0, and its engine has a calibration. -/
def laneInUse (cal : List (Nat × CalEntry)) : State :=
  let s := withEngine (withLine inspecting line) fun e => { e with cal := cal }
  { s with lanes := { s.lanes with banks := { s.lanes.banks with top := { a := bank0, b := LaneBank.powerOn } } } }

/-- R76, R79: column 2 is 30, column 3 is min(255, floor((41 - 1) x 8191 / 4096 + 1/2)) = 80, and the mean of lane 0, coated from
column 2, is 55. -/
theorem test_line_take_lane_mean :
    (after (.lineTake .top) (laneInUse [(3, { dark := 1, gain := 8191 })])).eng.top.laneLevels[(0 : LaneId)] = .mean 55 := by
  decide +kernel

/-- 5.3: the corrected values of the example. -/
theorem test_corrected_values :
    correctedValue 10 12 6000 = 0 ∧ correctedValue 1 0 2048 = 1 ∧ correctedValue 255 0 8191 = 255 := by
  decide

theorem witness_DroppedLinesChangeNothing :
    (∀ x ∈ (withEngine standby fun e => { e with binWidth := 4, bins := [(1, Bin.quiet 5)] }).eng.top.blobs,
        bank0[x.lane].enabled = true)
      ∧ ∀ jb ∈ (withEngine standby fun e => { e with binWidth := 4, bins := [(1, Bin.quiet 5)] }).eng.top.bins,
        bank0[(0 : LaneId)].enabled = true ∧ bank0[(0 : LaneId)].coatedFirst ≤ jb.1 * 4
          ∧ jb.1 * 4 + 4 ≤ bank0[(0 : LaneId)].coatedLast + 1 := by
  decide

theorem witness_SetCalWritesEntries :
    standby.takes .a ∧ be16 0 1 = ([(5, 0x1F, 0xFF)] : List (Byte × Byte × Byte)).length ∧ 2 ≤ (2 : Byte).toNat
      ∧ (withEngine standby fun e => { e with inFlight := some line }).eng.top.inFlight.isSome = true
      ∧ standby.eng.top.inFlight = none ∧ be16 0x3F 0xFF + 1 = 16384 ∧ standby.eng.top.teach = none
      ∧ standby.eng.top.calibrationInRange
      ∧ (withEngine standby fun e => { e with teach := some { n := 16, target := 1, taken := 0, columns := [] } }).eng.top.teach.isSome
        = true := by
  refine ⟨⟨?_, ?_⟩, ?_, ?_, ?_, ?_, ?_, ?_, ⟨?_, ?_⟩, ?_⟩ <;> decide

/-- R78: a gain above 8191 is written as 8191, at the last column. -/
theorem test_set_cal_clamps_gain :
    (after (.setCal .a [0, 0x3F, 0xFF, 0, 1, 5, 0x20, 0x00]) standby).eng.top.cal
      = [(16383, { dark := 5, gain := 8191 })] := by
  decide

/-- R75: a SET_CAL that arrives with a line in flight is held and the port stays EXECUTING. -/
theorem test_set_cal_held :
    (after (.setCal .a [0, 0, 0, 0, 1, 5, 0x10, 0x00])
        (withEngine standby fun e => { e with inFlight := some line })).ports.a.phase = .executing := by
  decide

theorem witness_TeachBeginsAndAborts :
    inspecting.takes .a ∧ be16 0 16 = 16 ∧ 1 ≤ (1 : Byte).toNat ∧ ¬1 ≤ (0 : Byte).toNat
      ∧ inspecting.runState = .inspecting ∧ standby.takes .a ∧ standby.runState ≠ .inspecting
      ∧ inspecting.eng.top.inFlight = none ∧ inspecting.eng.top.teach = none
      ∧ (withEngine inspecting fun e => { e with teach := some { n := 16, target := 1, taken := 3, columns := [] } }).eng.top.teach
        = some { n := 16, target := 1, taken := 3, columns := [] } := by
  refine ⟨⟨?_, ?_⟩, ?_, ?_, ?_, ?_, ⟨?_, ?_⟩, ?_⟩ <;> decide

/-- R81: a teach of 17 lines is refused RANGE. -/
theorem test_teach_line_count :
    (after (.teach .a [0, 0, 17, 150]) inspecting).ports.a.held = some { code := .range, body := [] }
      ∧ (after (.teach .a [0, 0, 16, 150]) inspecting).eng.top.teach
        = some { n := 16, target := 150, taken := 0, columns := [] } := by
  decide

/-- R85: TEACH_ABORT with no teach running is refused STATE. -/
theorem test_teach_abort_without_teach :
    (after (.teachAbort .a [0]) inspecting).ports.a.held = some { code := .state, body := [] } := by
  decide

theorem witness_SetSideMakesNewBins :
    State.reset.runState = .init ∧ standby.takes .a ∧ inspecting.takes .a ∧ 2 ≤ (2 : Byte).toNat
      ∧ (1 : Byte) = sideByte .bottom ∧ inspecting.runState ≠ .standby ∧ standby.runState = .standby
      ∧ ¬((5 : Byte) = 4 ∨ (5 : Byte) = 8 ∨ (5 : Byte) = 16) := by
  refine ⟨?_, ⟨?_, ?_⟩, ⟨?_, ?_⟩, ?_⟩ <;> decide

theorem test_set_side_width :
    (after (.setSide .a [1, 16]) standby).eng.bottom.binWidth = 16
      ∧ (after (.setSide .a [1, 5]) standby).ports.a.held = some { code := .range, body := [] } := by
  decide

/-- A line in flight with a TEACH of port B held behind it. -/
def teachHeld : State :=
  withEngine inspecting fun e =>
    { e with inFlight := some line, held := [{ port := .b, command := .teach, body := [0, 0, 16, 150] }] }

theorem witness_LineOperationEndReleasesLine :
    standby.takes .a ∧ standby.eng.top.inFlight = none
      ∧ (Instr.setCal .a (sideByte .top :: [0, 0, 0, 0])).lengthAllowed = true
      ∧ (Instr.teach .a (sideByte .top :: [0, 16, 150])).lengthAllowed = true
      ∧ (Instr.teachAbort .a (sideByte .top :: [])).lengthAllowed = true
      ∧ teachHeld.eng.top.inFlight.isSome = true ∧ teachHeld.eng.top.recordList = []
      ∧ (withEngine inspecting fun e => { e with inFlight := some line }).eng.top.held = [] := by
  refine ⟨⟨?_, ?_⟩, ?_⟩ <;> decide

/-- R154: a transfer of port B may have begun before the completion, and then it has shown the status of that instant. -/
theorem test_completion_keeps_shown_status :
    (after (.lineOperationEnd .top) teachHeld).ports.b.shownStatus
      = if Config.transferBegun 0 then some (teachHeld.statusByte .b) else none := by
  rfl

/-- R74, R75: the held TEACH is taken at the end of the operation. -/
theorem test_line_operation_end_takes_held_teach :
    (after (.lineOperationEnd .top) teachHeld).ports.b.held = some { code := .ok, body := [] }
      ∧ (after (.lineOperationEnd .top) teachHeld).eng.top.teach.isSome = true := by
  decide

/-- Candidates at columns 4, 5 and 7 of lane 0, whose mean is 100. -/
def brightCols : List (Nat × Nat) := [(3, 147), (4, 148), (5, 160), (6, 100), (7, 148)]

/-- The levels of a line with mean 100 in lane 0. -/
def meanLevels : Vector LaneLevel 16 := (Vector.replicate 16 .none).set 0 (.mean 100)

theorem witness_RunsAreMaximalCandidateSequences :
    (brightCols.Pairwise fun x y => x.1 < y.1)
      ∧ ∀ i : LaneId, bank0[i].enabled = true → i = 0 := by
  decide

/-- R88, R89: a contrast of exactly pin_threshold, 48, is a candidate; 47 is not. -/
theorem test_runs_of_line :
    findRuns bank0 Recipes.powerOn meanLevels brightCols
      = [{ lane := 0, first := 4, last := 5, peak := 60 }, { lane := 0, first := 7, last := 7, peak := 48 }] := by
  decide

/-- A blob of lane 0 with a previous span. -/
def blob (lo hi lines misses : Nat) : Blob :=
  { lane := 0, firstPos := 90, lastPos := 99, firstColumn := lo, lastColumn := hi, prevLo := lo, prevHi := hi, area := 4
    peak := 50, lines := lines, misses := misses, merged := false }

/-- A run of lane 0. -/
def run (first last : Nat) : Run := { lane := 0, first := first, last := last, peak := 60 }

/-- R92: a run two columns past a span does not touch it, one column past it does. -/
theorem witness_BlobUpdateOpensGrowsMergesAndCloses :
    2 ≤ Recipe.powerOn.maxBlobLines ∧ 128 - (List.replicate 127 (blob 5 7 1 0)).length = 1
      ∧ ((∃ r ∈ [run 8 9, run 6 6], r.first = 6) ∧ (∀ r ∈ [run 8 9, run 6 6], 6 ≤ r.first)
        ∧ (∃ r ∈ [run 8 9, run 6 6], r.last = 9) ∧ ∀ r ∈ [run 8 9, run 6 6], r.last ≤ 9)
      ∧ (run 8 9).first ≤ (blob 5 7 1 0).prevHi + 1
      ∧ ¬(run 9 9).first ≤ (blob 5 7 1 0).prevHi + 1 ∧ (blob 11 12 1 0).prevLo ≤ (run 8 10).last + 1
      ∧ ((blob 5 7 1 0).firstPos - (blob 11 12 1 0).firstPos).toNat ≠ 2 ^ 31
      ∧ min 65535 ((blob 5 7 1999 0).lines + 1) = Recipe.powerOn.maxBlobLines
      ∧ (∀ value, ((4 : Nat), value) ∉ ([] : List (Nat × Nat)))
      ∧ (blob 5 5 1 0).misses + 1 ≤ Recipe.powerOn.gapLines ∧ Recipe.powerOn.gapLines < (blob 5 5 1 1).misses + 1
      ∧ meanLevels[(blob 5 5 1 1).lane] ≠ .blind
      ∧ (∀ c, (blob 5 5 1 1).prevLo - 1 ≤ c → c ≤ (blob 5 5 1 1).prevHi + 1 → ∃ value, (c, value) ∈ brightCols) := by
  refine ⟨by decide, by simp, by decide, by decide, by decide, by decide, by decide, by decide, by simp, by decide,
    by decide, by decide, ?_⟩
  intro c h1 h2
  simp only [blob] at h1 h2
  interval_cases c
  · exact ⟨148, by decide⟩
  · exact ⟨160, by decide⟩
  · exact ⟨100, by decide⟩

/-- R97: a blind test column freezes the blob. -/
theorem test_blind_test_column_freezes :
    frozen bank0 meanLevels (brightCols.filter (·.1 ≠ 6)) [] (blob 5 5 1 1) = true
      ∧ frozen bank0 meanLevels brightCols [] (blob 5 5 1 1) = false := by
  decide

/-- An engine of width 4 with these bins. -/
def engine (bins : List (Nat × Bin)) : Engine :=
  { Engine.atReset [] 4 with bins := bins, laneLevels := meanLevels }

theorem witness_BinFreezesOrMovesTowardTarget :
    (∀ m, (engine []).laneLevels[(1 : LaneId)] ≠ .mean m) ∧ (engine []).laneLevels[(0 : LaneId)] = .mean 100
      ∧ ((brightCols.filter fun c => decide (1 * 4 ≤ c.1 ∧ c.1 < 1 * 4 + 4)).map (·.2)).length = (engine []).binWidth
      ∧ ((brightCols.filter fun c => decide (0 * 4 ≤ c.1 ∧ c.1 < 0 * 4 + 4)).map (·.2)).length ≠ (engine []).binWidth
      ∧ (engine [(0, Bin.quiet 9), (1, Bin.quiet 9)]).binWidth = 4
      ∧ sparseWf (Bin.quiet 0) (engine [(0, Bin.quiet 9), (1, Bin.quiet 9)]).bins = true
      ∧ (∀ i : LaneId, bank0[i].enabled = true → i = 0 ∧ bank0[i].coatedLast < 16384) := by
  refine ⟨?_, ?_, ?_, ?_, ?_, ?_, ?_⟩
  · intro m
    simp [engine, meanLevels]
  all_goals decide

/-- R109: with the coated zone from column 2 to 29, bins 1 to 6 of width 4 are evaluated; bin 0, across its first column, and bin 7,
across its last, are held QUIET with s = 0. -/
theorem test_evaluated_bins :
    evaluatedBins bank0 4 = [(1, 0), (2, 0), (3, 0), (4, 0), (5, 0), (6, 0)]
      ∧ ((engine [(0, Bin.quiet 9), (1, Bin.quiet 9), (7, Bin.quiet 9)]).quietUnevaluated bank0).bins = [(1, Bin.quiet 9)] := by
  decide +kernel

/-- R111, R112: the floor goes toward minus infinity; with shift 4 and a target of 16 an accumulator of 0 moves to 1 and rests
there, 15 short, and one of 17 falls to 16. -/
theorem test_accumulator_floor : accumulate 4 0 1 = 1 ∧ accumulate 4 1 1 = 1 ∧ accumulate 4 17 1 = 16 := by
  decide

/-- A recipe that confirms a streak at two lines. -/
def quick : Recipe := { Recipe.powerOn with minStreakLines := 2, reportLines := 3 }

/-- A light bin. -/
def lightBin (state : BinState) (length sinceReport : Nat) : Bin :=
  { s := 96, state := state, sign := .light, start := 80, last := 99, length := length, peak := 96
    sinceReport := sinceReport, waiting := false }

/-- The engine with a streak in bin 1. -/
def streaking (sinceReport : Nat) : Engine :=
  { engine [(1, lightBin .streak 2 sinceReport)] with
    streaks := [{ bin := 1, lane := 0, sign := .light, start := 80 }] }

/-- R113 to R117: 16 x streak_on is 96 and 16 x streak_off is 48; 95 does not start and 47 does not hold. -/
theorem witness_BinTransitionsFollowAccumulator :
    ((engine []).bin 1).state = .quiet ∧ 16 * quick.streakOn ≤ (96 : Int).natAbs ∧ ¬16 * quick.streakOn ≤ (95 : Int).natAbs
      ∧ ((engine [(1, lightBin .candidate 1 0)]).bin 1).state = .candidate ∧ 16 * quick.streakOff ≤ (48 : Int).natAbs
      ∧ ¬16 * quick.streakOff ≤ (47 : Int).natAbs ∧ quick.lightEnable = true ∧ 2 ≤ quick.minStreakLines
      ∧ min 65535 (1 + 1) = quick.minStreakLines ∧ (engine []).streaks.length < 64
      ∧ 64 ≤ (List.replicate 64 (⟨9, 0, .light, 0⟩ : StreakEntry)).length ∧ 2 < Recipe.powerOn.minStreakLines
      ∧ ((streaking 1).bin 1).state = .streak
      ∧ ((streaking 1).streaks.find? fun x => x.bin = 1) = some { bin := 1, lane := 0, sign := .light, start := 80 }
      ∧ 1 + 1 < quick.reportLines ∧ quick.reportLines ≤ 2 + 1 ∧ (-96 : Int) < 0 ∧ quick.darkEnable = true
      ∧ 16 * quick.streakOn ≤ (-96 : Int).natAbs ∧ 1 < quick.minStreakLines
      ∧ { quick with minStreakLines := 1 }.minStreakLines ≤ 1 := by
  decide

/-- R115: the candidate is confirmed on its second holding line, with STREAK_OPEN. -/
theorem test_candidate_confirms :
    ((engine [(1, lightBin .candidate 1 0)]).transition
        { side := .top, position := 100, bank := bank0, recipe := quick, lane := 0, index := 1 } 48).recordList.map
        (fun o => (o.draft.position, o.flag))
      = [(80, some true)] := by
  decide

/-- R118: a streak that does not hold closes. -/
theorem test_streak_closes :
    ((streaking 1).transition
        { side := .top, position := 100, bank := bank0, recipe := quick, lane := 0, index := 1 } 47).streaks = [] := by
  decide

/-- R114, R115, R118: a light streak whose bin turns dark closes, and with min_streak_lines 1 a dark one opens in the same line. -/
theorem test_streak_closes_and_opens :
    ((streaking 1).transition
        { side := .top, position := 100, bank := bank0, recipe := { quick with minStreakLines := 1 }, lane := 0, index := 1 }
        (-96)).recordList.map (fun o => (o.draft.position, o.draft.content.code))
      = [(99, 0x04), (100, 0x02)] := by
  decide

/-- An engine that teaches two lines of four. -/
def teaching (taken : Nat) : Engine :=
  { engine [] with
    teach := some { n := 4, target := 150, taken := taken, columns := [(5, { sum := 100, observed := 1 })] } }

theorem witness_TeachAddsLinesAndSetsGains :
    (teaching 2).teach
        = some { n := 4, target := 150, taken := 2, columns := [(5, { sum := 100, observed := 1 })] }
      ∧ (([(5, 200)] : List (Nat × Byte)).Pairwise fun x y => x.1 < y.1)
      ∧ sparseWf TeachColumn.zero [(5, { sum := 100, observed := 1 })] = true
      ∧ (∀ c ∈ ([(16383, 200)] : List (Nat × Byte)), c.1 < 16384) ∧ 2 + 1 ≠ 4 ∧ 3 + 1 = 4
      ∧ (teaching 3).calibrationInRange := by
  refine ⟨?_, ?_, ?_, ?_, ?_, ?_, ⟨?_, ?_⟩⟩ <;> decide

/-- R83: observed in 2 of 4 lines, column 5 has the average 150 and the gain 4096. -/
theorem test_teach_ends_with_gain :
    ((teaching 3).stageTeach .top 100 [(5, 200)]).calEntry 5 = { dark := 0, gain := 4096 }
      ∧ ((teaching 3).stageTeach .top 100 [(6, 200)]).calEntry 6 = { dark := 0, gain := 4096 }
      ∧ taughtGain 150 { sum := 0, observed := 2 } = 8191 := by
  decide

/-! ### Record store -/

/-- An offer of the position unit waits behind one of the mark scheduler. -/
def twoWaiting : State :=
  { standby with store := { standby.store with waiting := [{ spliceOffer with writer := .marks }, spliceOffer] } }

theorem witness_AppendServesRotationAndCounts :
    twoWaiting.store.rotation = [] ++ .positionUnit :: twoWaiting.store.rotation.tail
      ∧ Writer.positionUnit ∉ twoWaiting.store.rotation.tail ∧ twoWaiting.front .positionUnit = some spliceOffer
      ∧ twoWaiting.store.records.length < 2048
      ∧ twoWaiting.store.waiting = [{ spliceOffer with writer := .marks }] ++ spliceOffer :: []
      ∧ (withEngine standby fun e => { e with recordList := [{ spliceOffer with writer := .engine .top }] }).front
          (.engine .top)
        = some { spliceOffer with writer := .engine .top }
      ∧ (List.replicate 2048 (record 0)).length = 2048 := by
  decide +kernel

/-- R159: an append raises the pending count from 0 and starts the stale timer. -/
theorem test_append_starts_stale_timer :
    (after .recordAppend
        { twoWaiting with
          store :=
            { twoWaiting.store with
              reading := twoWaiting.store.reading.set .b { twoWaiting.store.reading.b with staleTime := 7 } } }).ports.b.staleTimer
      = some 7000 := by
  decide

/-- R128: the position unit stands first in the rotation, whatever was made first. -/
theorem test_append_serves_rotation :
    (after .recordAppend twoWaiting).store.waiting = [{ spliceOffer with writer := .marks }]
      ∧ (after .recordAppend twoWaiting).store.rotation.getLast? = some .positionUnit := by
  decide

/-- R129: every port counts the record. -/
theorem test_append_counts_pending : (after .recordAppend twoWaiting).store.reading.c.pending = 1 := by
  decide

/-- A PINHOLE record of TOP waits, with its governing flag. -/
def pinholeWaits (flag : Option Bool) (orders : List Order) : State :=
  withOrders
    { standby with
      store :=
        { standby.store with
          waiting :=
            [plainOffer (.engine .top)
              { side := some .top, lane := some 0, position := 50,
                content := .pinhole 51 5 6 4 60 2 PinholeFlags.gap (some 2) } flag] } }
    orders

theorem witness_AppendedDefectPlacesOrder :
    (pinholeWaits (some true) [order 200]).nextWriter = some (.engine .top)
      ∧ ahead ((50 : Position) + BitVec.ofNat 32 (standby.marker 2).record.distance) standby.pos.web = true
      ∧ (pinholeWaits (some true) [order 51]).marks.orders.length < 64
      ∧ (standby.marker 2).record.mergeWindow < min ((51 : Position) - 50).toNat ((50 : Position) - 51).toNat
      ∧ (pinholeWaits (some false) []).store.waiting.map (·.flag) = [some false]
      ∧ ahead ((50 : Position) + BitVec.ofNat 32 (standby.marker 2).record.distance) (at' standby 50 50 0).pos.web = false
      ∧ min ((order 50).firePos - 50).toNat ((50 : Position) - (order 50).firePos).toNat
        ≤ (standby.marker 2).record.mergeWindow
      ∧ 64 ≤ (List.replicate 64 (order 51)).length := by
  decide

/-- R146: at the web position the candidate is LATE, with its record; on an order it is MERGED. -/
theorem test_appended_defect_late_and_merged :
    (after .recordAppend (at' (pinholeWaits (some true) []) 50 50 0)).store.waiting.map (·.draft.content.code) = [0x22]
      ∧ (after .recordAppend (pinholeWaits (some true) [order 50])).marks.orders.map (·.mergeCount) = [1] := by
  decide

/-- R143, R144: the order stands before one farther ahead. -/
theorem test_appended_defect_places_order :
    (after .recordAppend (pinholeWaits (some true) [order 51])).marks.orders.map (·.firePos) = [50, 51] := by
  decide

theorem threeRecords_consecutive : threeRecords.store.consecutive := by
  refine ⟨by decide, by decide, ?_⟩
  decide

theorem threeRecords_countsTrue : threeRecords.store.countsTrue := by
  intro p
  cases p <;> decide

theorem witness_ReadRecordsDeliversFromCursor :
    threeRecords.takes .a ∧ threeRecords.store.consecutive ∧ threeRecords.store.countsTrue :=
  ⟨⟨by decide, by decide⟩, threeRecords_consecutive, threeRecords_countsTrue⟩

/-- R135: a read of one record stops behind it; the next passes over the record of another class. -/
theorem test_read_records_moves_cursor :
    (after (.readRecords .a [0]) threeRecords).store.reading.a.cursor = 1
      ∧ (after (.readRecords .a [2]) threeRecords).store.reading.a.cursor = 3 := by
  decide

/-- R172, R173: the response of two records is 6 bytes and 2 records of 32. -/
theorem test_read_records_response_length :
    ((after (.readRecords .a [16]) threeRecords).ports.a.held.map fun r => r.body.length) = some 70 := by
  decide

/-- R173, R174: the DROPPED record of TOP at 9 with a count of 1. -/
theorem test_delivered_record_bytes :
    (droppedRecord 1).bytes = [0, 0, 0, 1, 0x11, 0, 0xFF, 0, 0, 0, 0, 9, 0, 0, 0, 9, 0, 1] ++ List.replicate 14 0 := by
  decide

theorem witness_SetFilterRecountsPending :
    threeRecords.takes .a ∧ (0xE0 : Byte).toNat % 32 = 0 ∧ (0x02 : Byte).toNat % 32 ≠ 0 := by
  refine ⟨⟨?_, ?_⟩, ?_, ?_⟩ <;> decide

/-- R137: the recount under a filter of class COVERAGE alone; a trigger level of 0 becomes 1. -/
theorem test_set_filter_recounts :
    ((after (.setFilter .a [0x02, 0, 0, 0, 0]) threeRecords).store.reading.a.pending,
        (after (.setFilter .a [0x02, 0, 0, 0, 0]) threeRecords).store.reading.a.trigger) = (1, 1) := by
  decide

theorem witness_PortResetClearsIssuingPort : threeRecords.takes .b := ⟨by decide, by decide⟩

/-- R138: the cursor moves to the next sequence. -/
theorem test_port_reset_cursor : (after (.portReset .b []) threeRecords).store.reading.b.cursor = 3 := by
  decide

/-! ### Mark scheduler -/

theorem witness_MarkPlacesManualCandidate :
    State.reset.runState = .init ∧ standby.takes .a ∧ ahead (0x00FFFFFF : Position) standby.pos.web = true
      ∧ ¬16777215 < ((0x00FFFFFF : Position) - standby.pos.web).toNat
      ∧ 16777215 < ((0x01000000 : Position) - standby.pos.web).toNat ∧ ahead (0 : Position) standby.pos.web = false
      ∧ (withOrders standby [order 50]).marks.orders = [] ++ order 50 :: []
      ∧ min ((order 50).firePos - 50).toNat (50 - (order 50).firePos).toNat ≤ (standby.marker 2).record.mergeWindow
      ∧ ¬min ((order 50).firePos - 51).toNat (51 - (order 50).firePos).toNat ≤ (standby.marker 2).record.mergeWindow
      ∧ 64 ≤ (List.replicate 64 (order 50)).length ∧ (2 : Byte) = BitVec.ofNat 8 (2 : MarkerId).val := by
  refine ⟨?_, ⟨?_, ?_⟩, ?_⟩ <;> decide

/-- R146: at the web position a candidate is LATE; on an order of its marker it is MERGED; elsewhere it is PLACED. -/
theorem test_mark_outcomes :
    (after (.mark .a [2, 0, 0, 0, 0]) (withOrders standby [order 50])).ports.a.held = some { code := .ok, body := [2] }
      ∧ (after (.mark .a [2, 0, 0, 0, 50]) (withOrders standby [order 50])).ports.a.held
        = some { code := .ok, body := [1] }
      ∧ (after (.mark .a [2, 0, 0, 0, 51]) (withOrders standby [order 50])).ports.a.held
        = some { code := .ok, body := [0] } := by
  decide

/-- R145: a position 2^24 counts ahead is refused RANGE. -/
theorem test_mark_too_far_ahead :
    (after (.mark .a [2, 1, 0, 0, 0]) standby).ports.a.held = some { code := .range, body := [] } := by
  decide

/-- A SET_MARKER body for marker 2. -/
def markerBody (pulse window mode : Byte) : List Byte := [2, 0, 0, 0, 9, 0, pulse, 0, window, 0, 0, mode]

theorem witness_SetMarkerReplacesRecordAndActsOnOutput :
    standby.takes .a ∧ markerBody 10 5 2 = [2, 0, 0, 0, 9, 0, 10, 0, 5, 0, 0, 2] ∧ be16 0x03 0xE8 = 1000
      ∧ ¬1 ≤ be16 0 0 ∧ (2 : Byte).toNat ≤ 2 ∧ ¬(3 : Byte).toNat ≤ 2
      ∧ be16 0 5 ≠ (standby.marker 2).record.mergeWindow
      ∧ (∃ x ∈ (withOrders standby [order 50]).marks.orders, x.marker = 2) := by
  refine ⟨⟨?_, ?_⟩, ?_⟩ <;> decide

/-- R141: the merge window of a marker with an order is refused BUSY. -/
theorem test_set_marker_busy :
    (after (.setMarker .a (markerBody 10 5 0)) (withOrders standby [order 50])).ports.a.held
      = some { code := .busy, body := [] } := by
  decide

/-- R142: entry to FORCE drives the output. -/
theorem test_set_marker_force :
    ((after (.setMarker .a (markerBody 10 0 2)) standby).marker 2).output = .forced
      ∧ (after (.setMarker .a (markerBody 10 0 2)) standby).markActive 2 = true := by
  decide

/-- An order of marker 2 at the next position, its marker in a mode and its output in a state. -/
def firing (mode : MarkerMode) (output : OutputState) : State :=
  withMarker (withOrders standby [order 1]) fun m =>
    { m with record := { m.record with mode := mode, confirmTimeout := 20 }, output := output }

theorem witness_OrderFiresAtItsPosition :
    (((firing .normal .idle).pos.encA, (firing .normal .idle).pos.encB), true, false) ∈ forwardEdges
      ∧ (firing .normal .idle).marks.orders = [] ++ order 1 :: []
      ∧ (order 1).firePos = (firing .normal .idle).pos.web + 1
      ∧ ((firing .normal .pulsing).marker 2).record.mode = .normal ∧ ((firing .normal .pulsing).marker 2).output ≠ .forced
      ∧ ((firing .inhibit .idle).marker 2).record.mode = .inhibit
      ∧ ((firing .force .forced).marker 2).record.mode = .force ∧ ((firing .force .idle).marker 2).output ≠ .pulsing
      ∧ (∀ x ∈ (firing .normal .idle).marks.orders, x.firePos = (firing .normal .idle).pos.web + 1 → x.marker ≠ 3)
      ∧ (withOrders standby [order 1, { order 1 with marker := 3 }]).scheduleInOrder := by
  simp only [State.scheduleInOrder]
  decide

/-- R148: two orders at one position fire in ascending marker index. -/
theorem test_firings_in_marker_order :
    (after (.encoderEdge true false) (withOrders standby [order 1, { order 1 with marker := 3 }])).store.waiting.map
        (·.draft.content)
      = [.fired { marker := 2, firePos := 1, source := some 7, firstKind := some .pinhole } 0 false false,
        .fired { marker := 3, firePos := 1, source := some 7, firstKind := some .pinhole } 0 false false] := by
  decide

/-- R149: the pulse ends 10 units of 100 microseconds after the firing, and the window expires 20 milliseconds after it. -/
theorem test_normal_firing :
    ((after (.encoderEdge true false) (firing .normal .idle)).marker 2).pulseEnd = some 1000
      ∧ (((after (.encoderEdge true false) (firing .normal .idle)).marker 2).window.map (·.expiry)) = some 20000 := by
  decide

/-- R149: a firing during the pulse is extended. -/
theorem test_extended_firing :
    (after (.encoderEdge true false) (firing .normal .pulsing)).store.waiting.map (·.draft.content)
      = [.fired { marker := 2, firePos := 1, source := some 7, firstKind := some .pinhole } 0 true false] := by
  decide

/-- Marker 2 after its firing. -/
def fired : State := after (.encoderEdge true false) (firing .normal .idle)

/-- Port A's stale timer runs. -/
def staleRuns : State := withPort standby fun c => { c with staleTimer := some 5000 }

theorem witness_PulseConfirmAndStaleTimersAct :
    (fired.marker 2).pulseEnd = some 1000 ∧ (fired.marker 2).window.isSome = true
      ∧ (staleRuns.ports.get .a).staleTimer = some 5000 := by
  decide

/-- R149: the pulse end releases the output. -/
theorem test_pulse_end : (after (.pulseEnd 2) fired).markActive 2 = false := by
  decide

/-- R151: an edge closes the window; the expiry of an open one makes UNCONFIRMED. -/
theorem test_confirm_edge_and_expiry :
    ((after (.mcfEdge 2) fired).marker 2).window = none ∧ ((after (.mcfEdge 2) fired).marker 2).capture = 1
      ∧ (after (.confirmWindowExpiry 2) fired).store.waiting.getLast?.map (·.draft.content)
        = some (.unconfirmed { marker := 2, firePos := 1, source := some 7, firstKind := some .pinhole }) := by
  decide

/-- R159: the expiry raises RECORDS_STALE. -/
theorem test_stale_timer_expiry : (after (.staleTimerExpiry .a) staleRuns).ports.a.raised.recordsStale = true := by
  decide

/-! ### Client ports -/

/-- Port A has RUN_CHANGE and HEAD_CHANGE raised and enabled. -/
def noticed : State :=
  withPort standby fun c =>
    { c with
      raised := { c.raised with runChange := true, headChange := true }
      enables := { c.enables with runChange := true, headChange := true } }

theorem witness_NoticesAreEnabledAndReturned : noticed.takes .a := ⟨by decide, by decide⟩

/-- R160: RUN_CHANGE, code 3, is returned with the set 0x0C, and is cleared. -/
theorem test_get_notice_returns_highest :
    (after (.getNotice .a []) noticed).ports.a.held = some { code := .ok, body := [3, 0x0C] }
      ∧ (after (.getNotice .a []) noticed).ports.a.raised.runChange = false := by
  decide

/-- R158, R160: ATTN follows the enables at once. -/
theorem test_set_notices_attn : noticed.attn .a = true ∧ (after (.setNotices .a [0]) noticed).attn .a = false := by
  decide

theorem witness_QueriesReportState :
    noticed.takes .a ∧ 8 ≤ (8 : Byte).toNat ∧ (7 : Byte) = BitVec.ofNat 8 (7 : HeadId).val
      ∧ (0 : Byte) = BitVec.ofNat 8 (0 : MarkerId).val := by
  refine ⟨⟨?_, ?_⟩, ?_⟩ <;> decide

/-- 2.7, R172: GET_HEAD of head 5 after reset: BOTTOM, width 4096, origin 4096, OFF, DOWN. -/
theorem test_get_head_after_reset :
    ((after (.getHead .a [5]) noticed).ports.a.held.map fun r => r.body.take 13)
      = some [5, 0, 1, 0, 0, 0x10, 0, 0x10, 0, 0, 0, 0, 0] := by
  decide

/-- R172: GET_MARKER of marker 2 with one order: bytes 12 to 27. -/
theorem test_get_marker_schedule :
    ((after (.getMarker .a [2]) (withOrders standby [order 50])).ports.a.held.map fun r => r.body.drop 22)
      = some [0, 1, 1, 0, 0, 0, 50] := by
  decide

/-- R3: GET_STATUS reports the encoder-fault flag and clears it. -/
theorem test_get_status_clears_fault :
    (after (.getStatus .a []) (after (.encoderEdge true true) standby)).pos.encoderFault = false
      ∧ ((after (.getStatus .a []) (after (.encoderEdge true true) standby)).ports.a.held.map fun r => r.body[11]?)
        = some (some 1) := by
  decide

/-- Port A holds the response OK. -/
def responding : State := withPort standby fun c => { c with phase := .responseHeld, held := some { code := .ok, body := [] } }

/-- A transfer of port A began while the port was EXECUTING. -/
def begunBusy : State := withPort responding fun c => { c with shownStatus := some 0xA2 }

theorem witness_FetchShiftsOutResponse :
    State.reset.runState = .init ∧ standby.runState ≠ .init ∧ (standby.ports.get .a).phase ≠ .responseHeld
      ∧ (responding.ports.get .a).phase = .responseHeld
      ∧ (responding.ports.get .a).held = some { code := .ok, body := [] } ∧ ¬2 < 0 ∧ 2 < 3 + ([] : List Byte).length
      ∧ 3 + ([] : List Byte).length ≤ 3 ∧ (responding.ports.get .a).shownStatus = none
      ∧ (begunBusy.ports.get .a).shownStatus = some 0xA2 := by
  decide

/-- R157: a FETCH of the whole frame ends the response; one byte short of it keeps it. -/
theorem test_fetch_whole_and_short :
    (after (.fetch .a 3) responding).ports.a.dataOut = [0xA3, 0, 0, 0] ∧ (after (.fetch .a 3) responding).ports.a.phase = .idle
      ∧ (after (.fetch .a 2) responding).ports.a.phase = .responseHeld := by
  decide

/-- R154: the status byte is that of the instant of chip select assertion: BUSY, although the response is held by now. -/
theorem test_status_byte_of_assertion :
    (after (.fetch .a 3) begunBusy).ports.a.dataOut = [0xA2, 0, 0, 0]
      ∧ (after (.setNotices .a [0]) begunBusy).ports.a.dataOut = [0xA2, 0, 0, 0]
      ∧ (after (.fetch .a 3) begunBusy).ports.a.shownStatus = none := by
  decide

/-- Port A is EXECUTING. -/
def executing : State := withPort standby fun c => { c with phase := .executing }

theorem witness_CommandsAreDiscardedInInitAndLostInExecuting :
    (Instr.start .a []).commandFrame = some (.a, []) ∧ State.reset.runState = .init ∧ executing.runState ≠ .init
      ∧ (executing.ports.get .a).phase = .executing
      ∧ (Instr.unknownCommand .a 0x7F [1]).commandFrame = some (.a, [1]) := by
  decide

/-- R155, R158: the lost command raises PORT_FAULT with cause COMMAND_LOST. -/
theorem test_command_lost :
    ((after (.start .a []) executing).ports.a.faultCause, (after (.start .a []) executing).ports.a.faultCount)
      = (some .commandLost, 1) := by
  decide

theorem witness_FrameCodeAndLengthAreChecked :
    standby.runState ≠ .init ∧ (0x70 : Byte) ≠ 0 ∧ ([0] : List Byte).length < 2
      ∧ ([5] : List Byte).length ≠ 256 * (0 : Byte).toNat + (2 : Byte).toNat ∧ standby.takes .a
      ∧ (0x7F : Byte) ∉ namedCodes ∧ (Instr.setSide .a [0]).commandFrame = some (.a, [0])
      ∧ (Instr.setSide .a [0]).lengthAllowed = false ∧ (Instr.setLine .a [0x40]).lengthAllowed = true
      ∧ (Instr.setCal .a [0, 0, 0, 0, 1]).lengthAllowed = false := by
  refine ⟨?_, ?_, ?_, ?_, ⟨?_, ?_⟩, ?_⟩ <;> decide

/-- R171: the bytes of a SET_SIDE frame, of a FETCH and of a frame cut short. -/
theorem test_transfer_spells_command :
    transferCommand .b [0x23, 0, 2, 1, 16] = some (.setSide .b [1, 16])
      ∧ transferCommand .b [0x00, 0, 0] = some (.fetch .b 2)
      ∧ transferCommand .b [0x23, 0, 2, 1] = some (.badFrame .b 0x23 [0, 2, 1]) := by
  decide

/-- R156: a broken frame, an unknown code and a wrong length. -/
theorem test_frame_checks :
    (after (.badFrame .a 0x70 [0, 1]) standby).ports.a.faultCause = some .frame
      ∧ (after (.unknownCommand .a 0x7F []) standby).ports.a.held = some { code := .unknown, body := [] }
      ∧ (after (.setSide .a [0]) standby).ports.a.held = some { code := .length, body := [] } := by
  decide

/-! ### Run control -/

theorem witness_StartBeginsRun :
    inspecting.takes .a ∧ inspecting.runState ≠ .standby ∧ standby.takes .a
      ∧ (∀ h : HeadId, (standby.head h).geometry.enabled = false)
      ∧ ((withHead standby .mute).head 0).geometry.enabled = true ∧ (withHead standby .mute).restsOutsideRuns
      ∧ (withHead standby .mute).startBanksValid .top = true ∧ (withHead standby .mute).startBanksValid .bottom = true
      ∧ (withHead standby .mute).takes .a
      ∧ (withSwitch (withHead standby .mute) (pendingSwitch .now none)).hasHead .bottom = false
      ∧ (withHead overlapping .live).lanes.switch = none := by
  refine ⟨⟨?_, ?_⟩, ?_, ⟨?_, ?_⟩, ?_, ?_, ?_, ?_, ?_, ⟨?_, ?_⟩, ?_, ?_⟩
  case refine_8 => intro side; cases side <;> decide
  all_goals decide

/-- R164: START opens the slot of line 0, and a pending switch to an invalid bank is refused INVALID_MAP. -/
theorem test_start_opens_slot_of_line_0 :
    (after (.start .a []) (withHead standby .mute)).asm.top.slots.map (fun x => (x.line, x.expected)) = [(0, [0])]
      ∧ (after (.start .a []) (withSwitch (withHead overlapping .live) (pendingSwitch .now none))).ports.a.held
        = some { code := .invalidMap, body := [] } := by
  decide

/-- R164: the records of steps 1 and 3 are appended before the RUN record. -/
theorem test_start_records_in_order :
    (after .recordAppend
        (after .recordAppend
          (after .recordAppend
            (after (.start .a []) (withSwitch (withHead standby .mute) (pendingSwitch .now none)))))).store.records.map
        (·.draft.content.code)
      = [0x37, 0x33, 0x30] := by
  decide

/-- R164: with no head enabled START is refused NO_HEADS. -/
theorem test_start_without_heads :
    (after (.start .a []) standby).ports.a.held = some { code := .noHeads, body := [] } := by
  decide

/-- A skipped run is open. -/
def skipping : State :=
  { inspecting with
    pos := { inspecting.pos with skipped := some { first := 11, last := 12, count := 2, preceding := 4 } } }

theorem witness_StopEndsTriggerIssue :
    standby.takes .a ∧ standby.runState ≠ .inspecting ∧ inspecting.takes .a ∧ inspecting.pos.skipped = none
      ∧ skipping.takes .a ∧ skipping.pos.skipped = some { first := 11, last := 12, count := 2, preceding := 4 }
      ∧ (∀ o ∈ skipping.store.waiting, o.writer ≠ .runControl)
      ∧ (∀ o ∈ inspecting.store.waiting, o.step = none ∧ o.writer ≠ .runControl) := by
  refine ⟨⟨?_, ?_⟩, ?_, ⟨?_, ?_⟩, ?_, ⟨?_, ?_⟩, ?_, ?_⟩ <;> decide

/-- R165: the SKIPPED record is appended before the RUN record. -/
theorem test_stop_records_in_order :
    (after .recordAppend (after .recordAppend (after (.stop .a []) skipping))).store.records.map (·.draft.content)
      = [.skipped 12 2 4, .run .inspecting .stopping (some .a)] := by
  decide

/-- A drain with an open blob of minimum area. -/
def draining : State := withEngine stopping fun e => { e with blobs := [blob 5 6 1 0], snapshot := some Recipes.powerOn }

/-- The same with an open blind run. -/
def drainingBlind : State :=
  { draining with
    asm :=
      draining.asm.set .top
        { draining.asm.top with
          blindRuns := draining.asm.top.blindRuns.set 0 (some { cause := .crc, first := 7, last := 8, count := 2 }) } }

theorem witness_DrainEndClosesRun :
    draining.runState = .stopping
      ∧ ∀ side : Side,
        (draining.asm.get side).slots = [] ∧ (draining.asm.get side).queue = []
          ∧ (draining.eng.get side).inFlight = none ∧ (draining.eng.get side).streaksOwned := by
  refine ⟨by decide, ?_⟩
  intro side
  cases side <;> refine ⟨?_, ?_, ?_, ?_, ?_⟩ <;> decide

/-- R167: the assembler's BLIND record is passed over until the PINHOLE record of step 1 is appended, although the assembler stands
before the engine in the rotation; the RUN record comes last. R166: a STOP that finds everything idle ends the drain directly, and
its RUN record comes before the records of the end of drain. -/
theorem test_drain_records_follow_steps :
    (after .recordAppend (after .recordAppend (after .recordAppend (after .drainEnd drainingBlind)))).store.records.map
        (·.draft.content.code)
      = [0x01, 0x10, 0x30]
      ∧ (after .recordAppend (after .drainEnd (after (.stop .a []) { drainingBlind with runState := .inspecting }))).store.records.map
          (·.draft.content)
        = [.run .inspecting .stopping (some .a)] := by
  decide +kernel

/-- R167: the blob closes TRUNCATED and the RUN record comes last. -/
theorem test_drain_end_records :
    (after .drainEnd draining).store.waiting.map (·.draft.content.code) = [0x01, 0x30]
      ∧ (after .drainEnd draining).runState = .standby := by
  decide

/-! ### Invariants -/

theorem witness_StepKeepsStoreConsecutive :
    threeRecords.store.consecutive ∧ threeRecords.store.countsTrue ∧ ∃ t, step threeRecords = .next t :=
  ⟨threeRecords_consecutive, threeRecords_countsTrue, _, rfl⟩

theorem witness_StepKeepsCapacityAndRest :
    (withSlots inspecting [slot 0 false, slot 1 true, slot 2 true, slot 3 true]).withinCapacity
      ∧ standby.restsOutsideRuns := by
  refine ⟨⟨?_, by decide⟩, ?_⟩ <;> intro side <;> cases side <;> decide

theorem witness_StepKeepsEngineValuesInRange :
    (∀ side : Side, ((laneInUse [(3, { dark := 255, gain := 8191 })]).eng.get side).calibrationInRange)
      ∧ (∀ side : Side,
        ((withEngine inspecting fun e => { e with bins := [(1, { Bin.quiet 4080 with peak := -4080 })] }).eng.get
          side).accumulatorsInRange)
      ∧ (streaking 1).streaksOwned := by
  refine ⟨?_, ?_, ⟨?_, ?_⟩⟩
  · intro side
    cases side <;> refine ⟨?_, ?_⟩ <;> decide
  · intro side
    cases side <;> simp only [Engine.accumulatorsInRange] <;> decide
  · decide
  · decide

theorem witness_StepKeepsPositionsRelated :
    (at' standby 0 0x40000000 0).webBehindHighWater ∧ (withOrders standby [order 50, order 51]).ordersApart
      ∧ (withOrders standby [order 1, { order 1 with marker := 3 }, order 0x7FFFFFFE]).scheduleInOrder
      ∧ ((0x7FFFFFFE : Position) - standby.pos.web).toNat ≠ 2 ^ 31 - 1 := by
  refine ⟨?_, ?_, ⟨?_, ?_⟩, ?_⟩
  · simp only [State.webBehindHighWater]
    decide
  · simp only [State.ordersApart]
    decide
  all_goals decide

theorem witness_StepKeepsStatesInAgreement :
    (∀ h : HeadId, ((withHead standby .mute).head h).stateFits) ∧ (∀ p : Port, (responding.ports.get p).responseFits)
      ∧ ∀ k : MarkerId, ((after (.setMarker .a (markerBody 10 0 2)) standby).marker k).outputFits := by
  refine ⟨?_, ?_, ?_⟩
  · simp only [Head.stateFits]
    decide
  · intro p
    cases p <;> simp only [PortState.responseFits] <;> decide
  · simp only [Marker.outputFits]
    decide

end Sys2Proof.Tests
end

section
/-! SUPPORT. Laws of the closure of a line and of the opening of a slot: what each changes, and what it leaves as it was. -/

namespace Sys2Proof.Machine

/-! ### The store and the ports -/

@[simp] theorem Store.adding_nil (t : Store) : t.adding [] = t := by simp [Store.adding]

@[simp] theorem Store.adding_adding (t : Store) (x y : List Offer) : (t.adding x).adding y = t.adding (x ++ y) := by
  simp [Store.adding]

@[simp] theorem Store.adding_records (t : Store) (x : List Offer) : (t.adding x).records = t.records := rfl
@[simp] theorem Store.adding_reading (t : Store) (x : List Offer) : (t.adding x).reading = t.reading := rfl
@[simp] theorem Store.adding_waiting (t : Store) (x : List Offer) : (t.adding x).waiting = t.waiting ++ x := rfl

theorem State.offer_eq (s : State) (w : Writer) (d : Draft) (flag : Option Bool) :
    s.offer w d flag = { s with store := s.store.adding [plainOffer w d flag] } := rfl

@[simp] theorem PerPort.get_all (v : PerPort PortState) (f : PortState → PortState) (p : Port) :
    (v.all f).get p = f (v.get p) := by
  cases p <;> rfl

/-- Raising HEAD_CHANGE a second time changes nothing. -/
@[simp] theorem PerPort.all_withHeadChange_twice (v : PerPort PortState) :
    (v.all PortState.withHeadChange).all PortState.withHeadChange = v.all PortState.withHeadChange := rfl

/-- Raising MARK_TROUBLE a second time changes nothing. -/
@[simp] theorem PerPort.all_withMarkTrouble_twice (v : PerPort PortState) :
    (v.all PortState.withMarkTrouble).all PortState.withMarkTrouble = v.all PortState.withMarkTrouble := rfl

/-! ### The heads of a side -/

theorem allHeads_nodup : allHeads.Nodup := by decide

theorem mem_allHeads (h : HeadId) : h ∈ allHeads := by
  revert h
  decide

@[simp] theorem State.mem_headsOn (s : State) (side : Side) (h : HeadId) :
    h ∈ s.headsOn side ↔ s.headOn side h = true := by
  simp [State.headsOn, mem_allHeads]

theorem State.headsOn_nodup (s : State) (side : Side) : (s.headsOn side).Nodup := allHeads_nodup.filter _

/-- The heads of a side depend on the geometry of the heads alone. -/
theorem State.headOn_congr {s t : State} (h : ∀ g : HeadId, (t.head g).geometry = (s.head g).geometry) (side : Side) :
    t.headOn side = s.headOn side := by
  funext g
  simp [State.headOn, h]

theorem State.headsOn_congr {s t : State} (h : ∀ g : HeadId, (t.head g).geometry = (s.head g).geometry) (side : Side) :
    t.headsOn side = s.headsOn side := by
  simp only [State.headsOn, State.headOn_congr h]

theorem State.headOn_side {s : State} {side : Side} {h : HeadId} (on : s.headOn side h = true) :
    (s.head h).geometry.side = side := by
  simp only [State.headOn, Bool.and_eq_true, decide_eq_true_eq] at on
  exact on.2

/-! ### The miss accounting (R44) -/

/-- R32: a head that a closure moves to MUTE. -/
def State.mutesAt (s : State) (slot : Slot) (h : HeadId) : Bool :=
  decide (h ∈ slot.expected) && slot.contributions[h].isNone && decide ((s.head h).state = .live)
    && decide (2 ≤ (s.head h).misses)

/-- R44: the HEAD_STATE records of a closure for these heads of the side, in their order. -/
def State.missRecordsOf (s : State) (side : Side) (slot : Slot) (heads : List HeadId) : List Offer :=
  (heads.filter (s.mutesAt slot)).map fun h =>
    plainOffer (.head h)
      { side := some side, lane := none, position := s.pos.web, content := .headState h .live .mute .misses } none

theorem State.missRecords_eq (s : State) (side : Side) (slot : Slot) :
    s.missRecords side slot = s.missRecordsOf side slot (s.headsOn side) := by
  simp only [State.missRecords, State.missRecordsOf, State.headsOn, List.filter_filter]
  congr 2
  funext h
  cases s.headOn side h <;> simp [State.mutesAt]

/-- Changing one element twice. -/
theorem vecModify_vecModify {α : Type} {n : Nat} (v : Vector α n) (i : Fin n) (f g : α → α) :
    vecModify (vecModify v i f) i g = vecModify v i (g ∘ f) := by
  simp [vecModify]

/-- Changing one element into itself. -/
theorem vecModify_eq_self {α : Type} {n : Nat} (v : Vector α n) (i : Fin n) (f : α → α) (h : f v[i] = v[i]) :
    vecModify v i f = v := by
  rw [vecModify, h]
  simp

/-- What a change of one element gives depends on what it makes of that element alone. -/
theorem vecModify_congr {α : Type} {n : Nat} (v : Vector α n) (i : Fin n) {f g : α → α} (h : f v[i] = g v[i]) :
    vecModify v i f = vecModify v i g := by
  simp only [vecModify, h]

/-- What a change of heads, records and notices that leaves the rest of the state makes of it. -/
def State.withHeads (s : State) (heads : Vector Head 8) (made : List Offer) : State :=
  { s with
    heads := heads
    store := s.store.adding made
    ports := if made = [] then s.ports else s.ports.all PortState.withHeadChange }

theorem State.withHeads_withHeads (s : State) (v w : Vector Head 8) (x y : List Offer) :
    (s.withHeads v x).withHeads w y = s.withHeads w (x ++ y) := by
  cases x <;> cases y <;> simp [State.withHeads]

theorem State.setMisses_eq (s : State) (h : HeadId) (n : Nat) :
    s.setMisses h n = s.withHeads (vecModify s.heads h fun r => { r with misses := n }) [] := by
  simp [State.setMisses, State.modHead, State.withHeads]

/-- R34: a change of head state, with its record and its notice. -/
theorem State.setHeadState_eq (s : State) (h : HeadId) (new : HeadState) (cause : HeadCause)
    (change : (s.head h).state ≠ new) :
    s.setHeadState h new cause
      = s.withHeads (vecModify s.heads h fun r => { r with state := new })
          [plainOffer (.head h)
            { side := some (s.head h).geometry.side, lane := none, position := s.pos.web,
              content := .headState h (s.head h).state new cause } none] := by
  have side : ((s.modHead h fun r => { r with state := new }).head h).geometry.side = (s.head h).geometry.side := by
    simp [State.head_modHead]
  simp only [State.setHeadState, if_neg change, side]
  rfl

/-- R32, R44: the miss accounting of one head. -/
theorem State.accountHead_eq (s : State) (side : Side) (slot : Slot) (h : HeadId)
    (on : (s.head h).geometry.side = side) :
    s.accountHead slot h
      = s.withHeads (vecModify s.heads h (headAfterClosure slot h)) (s.missRecordsOf side slot [h]) := by
  by_cases gave : slot.contributions[h].isSome
  · have none_mutes : s.missRecordsOf side slot [h] = [] := by
      simp only [State.missRecordsOf, State.mutesAt, List.filter_singleton]
      cases hc : slot.contributions[h] <;> simp_all
    rw [none_mutes, State.accountHead, if_pos gave, State.setMisses_eq]
    exact congrArg (s.withHeads · []) (vecModify_congr _ _ (if_pos gave).symm)
  · by_cases expected : h ∈ slot.expected
    · have counted : (s.setMisses h (satSucc 255 (s.head h).misses)).head h
          = { s.head h with misses := min 255 ((s.head h).misses + 1) } := by
        simp [State.setMisses, State.head_modHead, satSucc]
      have three : 3 ≤ min 255 ((s.head h).misses + 1) ↔ 2 ≤ (s.head h).misses := by omega
      rw [State.accountHead, if_neg gave, if_pos (by simpa using expected)]
      simp only [counted, three]
      by_cases mutes : (s.head h).state = .live ∧ 2 ≤ (s.head h).misses
      · have made : s.missRecordsOf side slot [h]
            = [plainOffer (.head h)
                { side := some side, lane := none, position := s.pos.web, content := .headState h .live .mute .misses }
                none] := by
          simp_all [State.missRecordsOf, State.mutesAt, -Fin.getElem_fin]
        have after : headAfterClosure slot h s.heads[h]
            = { s.heads[h] with misses := min 255 (s.heads[h].misses + 1), state := .mute } := by
          rw [headAfterClosure, if_neg gave, if_pos expected, if_pos ⟨mutes.1, three.mpr mutes.2⟩]
        have both := vecModify_vecModify s.heads h (fun r => { r with misses := satSucc 255 (s.head h).misses })
          fun r => { r with state := .mute }
        rw [if_pos mutes, State.setHeadState_eq _ _ _ _ (by simp [counted, mutes.1]), counted, made]
        simp only [State.setMisses_eq, State.withHeads_withHeads, on, mutes.1]
        exact congrArg (s.withHeads · _) (both.trans (vecModify_congr _ _ after.symm))
      · have made : s.missRecordsOf side slot [h] = [] := by
          simp_all [State.missRecordsOf, State.mutesAt, -Fin.getElem_fin]
        have after : headAfterClosure slot h s.heads[h]
            = { s.heads[h] with misses := min 255 (s.heads[h].misses + 1) } := by
          rw [headAfterClosure, if_neg gave, if_pos expected, if_neg fun live => mutes ⟨live.1, three.mp live.2⟩]
        rw [if_neg mutes, made, State.setMisses_eq]
        exact congrArg (s.withHeads · []) (vecModify_congr _ _ after.symm)
    · have none_mutes : s.missRecordsOf side slot [h] = [] := by
        simp [State.missRecordsOf, State.mutesAt, expected]
      have same : headAfterClosure slot h s.heads[h] = s.heads[h] := by
        simp [headAfterClosure, gave, expected, -Fin.getElem_fin]
      rw [none_mutes, State.accountHead, if_neg gave, if_neg (by simpa using expected), vecModify_eq_self _ _ _ same]
      simp [State.withHeads]

/-- Miss accounting looks at a head's state and misses, and at the slot. -/
theorem State.missRecordsOf_congr {s t : State} (side : Side) (slot : Slot) (heads : List HeadId)
    (hpos : t.pos = s.pos) (hheads : ∀ h ∈ heads, t.head h = s.head h) :
    t.missRecordsOf side slot heads = s.missRecordsOf side slot heads := by
  have same : heads.filter (t.mutesAt slot) = heads.filter (s.mutesAt slot) :=
    List.filter_congr fun h mem => by simp only [State.mutesAt, hheads h mem]
  simp only [State.missRecordsOf, same, hpos]

/-- R32, R44: the miss accounting of heads of a side, one after the other. -/
theorem State.foldl_accountHead (s : State) (side : Side) (slot : Slot) (heads : List HeadId) (nodup : heads.Nodup)
    (on : ∀ h ∈ heads, (s.head h).geometry.side = side) :
    ∃ after : Vector Head 8,
      heads.foldl (·.accountHead slot) s = s.withHeads after (s.missRecordsOf side slot heads)
        ∧ ∀ h : HeadId, after[h] = if h ∈ heads then headAfterClosure slot h (s.head h) else s.head h := by
  induction heads generalizing s with
  | nil => exact ⟨s.heads, by simp [State.withHeads, State.missRecordsOf], fun h => by simp [State.head]⟩
  | cons g rest ih =>
    obtain ⟨fresh, nodup⟩ := List.nodup_cons.mp nodup
    let u := s.withHeads (vecModify s.heads g (headAfterClosure slot g)) (s.missRecordsOf side slot [g])
    have first : s.accountHead slot g = u := s.accountHead_eq side slot g (on g (by simp))
    have head_u : ∀ h, u.head h = if h = g then headAfterClosure slot g (s.head h) else s.head h :=
      fun h => vecModify_get s.heads g h _
    have kept : ∀ h ∈ rest, u.head h = s.head h := fun h mem => by
      rw [head_u, if_neg (ne_of_mem_of_not_mem mem fresh)]
    obtain ⟨after, eq, heads⟩ := ih u nodup fun h mem => kept h mem ▸ on h (by simp [mem])
    have made : s.missRecordsOf side slot (g :: rest) =
        s.missRecordsOf side slot [g] ++ s.missRecordsOf side slot rest := by
      simp [State.missRecordsOf, ← List.map_append, ← List.filter_append]
    refine ⟨after, ?_, fun h => ?_⟩
    · rw [List.foldl_cons, first, eq, State.missRecordsOf_congr (s := s) (t := u) side slot rest rfl kept, made]
      exact State.withHeads_withHeads ..
    · rw [heads, head_u]
      by_cases e : h = g
      · subst e
        simp [fresh]
      · simp [e]

/-! ### Blind runs (R48, R49) -/

theorem State.blindRecords_cons (s : State) (side : Side) (h : HeadId) (heads : List HeadId) :
    s.blindRecords side (h :: heads) = s.blindRecords side [h] ++ s.blindRecords side heads := by
  simp [State.blindRecords]

/-- The BLIND records of heads depend on their own runs alone. -/
theorem State.blindRecords_congr {s t : State} (side : Side) (heads : List HeadId)
    (same : ∀ h ∈ heads, (t.asm.get side).blindRuns[h] = (s.asm.get side).blindRuns[h]) :
    t.blindRecords side heads = s.blindRecords side heads := by
  induction heads with
  | nil => rfl
  | cons h rest ih =>
    rw [State.blindRecords_cons, State.blindRecords_cons s, ih fun g mem => same g (by simp [mem])]
    simp only [State.blindRecords, List.flatMap_singleton, same h (by simp)]

/-- A change of one side's blind runs, with the records made. -/
def State.withBlindRuns (s : State) (side : Side) (runs : Vector (Option BlindRun) 8) (made : List Offer) : State :=
  { s with
    asm := s.asm.set side { (s.asm.get side) with blindRuns := runs }
    store := s.store.adding made }

theorem State.withBlindRuns_withBlindRuns (s : State) (side : Side) (v w : Vector (Option BlindRun) 8)
    (x y : List Offer) : (s.withBlindRuns side v x).withBlindRuns side w y = s.withBlindRuns side w (x ++ y) := by
  simp [State.withBlindRuns]

/-- R49: an open blind run closes with its BLIND record. -/
theorem State.closeBlindRun_eq (s : State) (side : Side) (h : HeadId) :
    s.closeBlindRun side h
      = s.withBlindRuns side ((s.asm.get side).blindRuns.set h none) (s.blindRecords side [h]) := by
  cases run : (s.asm.get side).blindRuns[h] with
  | none =>
    have same : (s.asm.get side).blindRuns.set h none = (s.asm.get side).blindRuns := by
      rw [← run]
      simp
    simp only [State.closeBlindRun, State.withBlindRuns, State.blindRecords, List.flatMap_singleton, run, same,
      Store.adding_nil]
    rw [PerSide.set_get]
  | some r =>
    simp only [State.closeBlindRun, State.withBlindRuns, State.blindRecords, List.flatMap_singleton, run]
    rfl

/-- R48: an open blind run is extended, or a new one opened. -/
theorem State.extendBlindRun_eq (s : State) (side : Side) (h : HeadId) (cause : BlindCause) (position : Position) :
    s.extendBlindRun side h cause position
      = s.withBlindRuns side
          ((s.asm.get side).blindRuns.set h
            (some (blindRunAfter.grown (s.asm.get side).blindRuns[h] position cause))) [] := by
  cases run : (s.asm.get side).blindRuns[h] <;>
    simp only [State.extendBlindRun, State.modAsm, run, State.withBlindRuns, Store.adding_nil, blindRunAfter.grown,
      satSucc, Config.max16]

@[simp] theorem State.blindRecords_nil (s : State) (side : Side) : s.blindRecords side [] = [] := rfl

/-- R48, R49: the blind run of one head at a queued line. -/
theorem State.updateBlindRun_eq (s : State) (side : Side) (slot : Slot) (h : HeadId) :
    s.updateBlindRun side slot h
      = s.withBlindRuns side
          ((s.asm.get side).blindRuns.set h
            (blindRunAfter (s.asm.get side).blindRuns[h] slot.position (headResult slot h)))
          (s.blindRecords side ([h].filter fun g => headResult slot g = .full)) := by
  cases result : headResult slot h with
  | full => simp [State.updateBlindRun, result, State.closeBlindRun_eq, blindRunAfter]
  | short | crc | missing | absent => simp [State.updateBlindRun, result, State.extendBlindRun_eq, blindRunAfter]

/-- R48, R49: the blind runs of heads at a queued line, one after the other. -/
theorem State.foldl_updateBlindRun (s : State) (side : Side) (slot : Slot) (heads : List HeadId) (nodup : heads.Nodup) :
    ∃ runs : Vector (Option BlindRun) 8,
      heads.foldl (State.updateBlindRun side slot) s
          = s.withBlindRuns side runs (s.blindRecords side (heads.filter fun g => headResult slot g = .full))
        ∧ ∀ h : HeadId,
          runs[h] =
            if h ∈ heads then blindRunAfter (s.asm.get side).blindRuns[h] slot.position (headResult slot h)
            else (s.asm.get side).blindRuns[h] := by
  induction heads generalizing s with
  | nil =>
    refine ⟨(s.asm.get side).blindRuns, ?_, fun h => by simp⟩
    simp only [List.foldl_nil, List.filter_nil, State.blindRecords_nil, State.withBlindRuns, Store.adding_nil]
    rw [PerSide.set_get]
  | cons g rest ih =>
    obtain ⟨fresh, nodup⟩ := List.nodup_cons.mp nodup
    let u := s.updateBlindRun side slot g
    have runs_u : ∀ h : HeadId,
        (u.asm.get side).blindRuns[h] =
          if h = g then blindRunAfter (s.asm.get side).blindRuns[h] slot.position (headResult slot h)
          else (s.asm.get side).blindRuns[h] := fun h => by
      by_cases e : h = g
      · subst e
        simp [u, State.updateBlindRun_eq, State.withBlindRuns]
      · have e' : (g : Nat) ≠ h := fun same => e (Fin.ext same.symm)
        simp [u, State.updateBlindRun_eq, State.withBlindRuns, e, e']
    have kept : ∀ h ∈ rest, (u.asm.get side).blindRuns[h] = (s.asm.get side).blindRuns[h] := fun h mem => by
      rw [runs_u, if_neg (ne_of_mem_of_not_mem mem fresh)]
    obtain ⟨runs, eq, after⟩ := ih u nodup
    refine ⟨runs, ?_, fun h => ?_⟩
    · rw [List.foldl_cons, eq, State.blindRecords_congr (s := s) side _ fun h mem => kept h (List.mem_of_mem_filter mem)]
      simp only [u, State.updateBlindRun_eq, State.withBlindRuns_withBlindRuns]
      congr 1
      simp only [State.blindRecords, ← List.flatMap_append, ← List.filter_append, List.singleton_append]
    · rw [after, runs_u]
      by_cases e : h = g
      · subst e
        simp [fresh]
      · simp [e]

/-! ### The closure of the oldest slot (R43 to R47) -/

/-- R47: the open drop run of a side closes with its DROPPED record. -/
theorem State.closeDropRun_eq (s : State) (side : Side) :
    s.closeDropRun side
      = { s with
          asm := s.asm.set side { (s.asm.get side) with dropRun := none }
          store := s.store.adding (s.dropRecords side) } := by
  cases run : (s.asm.get side).dropRun with
  | none =>
    simp only [State.closeDropRun, State.dropRecords, run, Store.adding_nil]
    rw [← run, PerSide.set_get]
  | some d =>
    simp only [State.closeDropRun, State.dropRecords, run]
    rfl

theorem extendDropRun_eq (position : Position) (d : Option DropRun) :
    extendDropRun position d =
      match d with
      | none => { first := position, last := position, count := 1 }
      | some d => { first := d.first, last := position, count := min 65535 (d.count + 1) } := by
  cases d <;> rfl

/-- R43: the columns of a line are those that the contributions of the side's heads carry. -/
theorem State.mem_lineCols (s : State) (side : Side) (slot : Slot) (column : Nat) (value : Byte) :
    (column, value) ∈ s.lineCols side slot ↔
      ∃ (h : HeadId) (c : Contribution),
        s.headOn side h = true ∧ slot.contributions[h] = some c ∧ c.mark ≠ .crc ∧ (column, value) ∈ c.cols := by
  simp only [State.lineCols, List.mem_flatMap, List.mem_insertionSort, State.mem_headsOn]
  refine exists_congr fun h => ?_
  cases gave : slot.contributions[h] with
  | none => simp [resultCols, gave, -Fin.getElem_fin]
  | some c => by_cases crc : c.mark = .crc <;> simp [resultCols, gave, crc, -Fin.getElem_fin]

/-- R45, R47 to R49: a line that the queue has room for joins it, closes the drop run and updates the blind runs. -/
theorem State.offerLine_queued (s : State) (side : Side) (slot : Slot) (cols : List (Nat × Byte))
    (fits : (s.asm.get side).queue.length < 4) :
    ∃ runs : Vector (Option BlindRun) 8,
      s.offerLine side slot cols
          = { s with
              asm := s.asm.set side
                { (s.asm.get side) with
                  queue := (s.asm.get side).queue ++
                    [{ position := slot.position, cols := cols,
                       precedingDrop := (s.asm.get side).dropRun.map (·.count) }]
                  dropRun := none
                  blindRuns := runs }
              store := s.store.adding
                (s.dropRecords side
                  ++ s.blindRecords side ((s.headsOn side).filter fun h => headResult slot h = .full)) }
        ∧ ∀ h : HeadId,
          runs[h] =
            if s.headOn side h then blindRunAfter (s.asm.get side).blindRuns[h] slot.position (headResult slot h)
            else (s.asm.get side).blindRuns[h] := by
  let u : State :=
    { s with
      asm := s.asm.set side
        { (s.asm.get side) with
          queue := (s.asm.get side).queue ++
            [{ position := slot.position, cols := cols, precedingDrop := (s.asm.get side).dropRun.map (·.count) }]
          dropRun := none }
      store := s.store.adding (s.dropRecords side) }
  have before : s.offerLine side slot cols = (s.headsOn side).foldl (State.updateBlindRun side slot) u := by
    rw [State.offerLine, if_pos (show _ < Config.queueDepth from fits)]
    simp only [State.closeDropRun_eq, State.modAsm, PerSide.get_set_same, PerSide.set_set]
    rfl
  obtain ⟨runs, eq, after⟩ := u.foldl_updateBlindRun side slot (s.headsOn side) (s.headsOn_nodup side)
  have runs_u : (u.asm.get side).blindRuns = (s.asm.get side).blindRuns := by simp [u]
  refine ⟨runs, ?_, fun h => ?_⟩
  · rw [before, eq, State.blindRecords_congr (s := s) side _ fun h _ => by rw [runs_u]]
    simp [State.withBlindRuns, u]
  · simp only [after, runs_u, State.mem_headsOn]

/-- R46: a line that the queue has no room for is dropped whole. -/
theorem State.offerLine_dropped (s : State) (side : Side) (slot : Slot) (cols : List (Nat × Byte))
    (full : ¬(s.asm.get side).queue.length < 4) :
    s.offerLine side slot cols
      = { s with
          asm := s.asm.set side
            { (s.asm.get side) with dropRun := some (extendDropRun slot.position (s.asm.get side).dropRun) } } := by
  rw [State.offerLine, if_neg (show ¬_ < Config.queueDepth from full)]
  rfl

theorem headAfterClosure_geometry (slot : Slot) (h : HeadId) (r : Head) :
    (headAfterClosure slot h r).geometry = r.geometry := by
  unfold headAfterClosure
  split_ifs <;> rfl

/-- R43, R44: the oldest slot is freed and the misses of its heads are accounted. -/
theorem State.freeOldest_eq (s : State) (side : Side) (slot : Slot) (rest : List Slot) :
    ∃ heads : Vector Head 8,
      (s.modAsm side fun a => { a with slots := rest }).accountMisses side slot
          = (s.modAsm side fun a => { a with slots := rest }).withHeads heads (s.missRecords side slot)
        ∧ ∀ h : HeadId, heads[h] = if s.headOn side h then headAfterClosure slot h (s.head h) else s.head h := by
  let u := s.modAsm side fun a => { a with slots := rest }
  obtain ⟨heads, eq, after⟩ := u.foldl_accountHead side slot (s.headsOn side) (s.headsOn_nodup side)
    fun h on => State.headOn_side ((s.mem_headsOn side h).mp on)
  refine ⟨heads, ?_, fun h => ?_⟩
  · rw [State.missRecords_eq]
    exact eq
  · simp only [after, State.mem_headsOn]
    rfl

/-- R43 to R49: the oldest open slot of a side closes as the rules of the closure say. -/
theorem State.closeOldest_lineClosed (s : State) (side : Side) (slot : Slot) (rest : List Slot)
    (oldest : (s.asm.get side).slots = slot :: rest) : s.lineClosed (s.closeOldest side) side slot rest := by
  obtain ⟨heads, freed, heads_after⟩ := s.freeOldest_eq side slot rest
  let u := (s.modAsm side fun a => { a with slots := rest }).withHeads heads (s.missRecords side slot)
  have closed : s.closeOldest side = u.offerLine side slot (s.lineCols side slot) := by
    simp only [State.closeOldest, oldest, freed, u]
  have asm_u : u.asm = s.asm.set side { (s.asm.get side) with slots := rest } := rfl
  have geometry : ∀ h : HeadId, (u.head h).geometry = (s.head h).geometry := fun h => by
    change heads[h].geometry = _
    rw [heads_after]
    split
    · exact headAfterClosure_geometry ..
    · rfl
  by_cases fits : (s.asm.get side).queue.length < 4
  · obtain ⟨runs, eq, runs_after⟩ := u.offerLine_queued side slot (s.lineCols side slot) (by simpa [asm_u] using fits)
    have blind : (s.headsOn side).filter (fun h => headResult slot h = .full)
        = allHeads.filter fun h => s.headOn side h && decide (headResult slot h = .full) := by
      simp only [State.headsOn, List.filter_filter, Bool.and_comm]
    rw [closed, eq]
    let line : LineEntry :=
      { position := slot.position, cols := s.lineCols side slot
        precedingDrop := (s.asm.get side).dropRun.map (·.count) }
    refine ⟨by simp [asm_u], by simp [asm_u], fun other ne => by simp [asm_u, PerSide.get_set, ne], heads_after,
      fun _ => ⟨⟨line, by simp [asm_u, line], rfl, rfl, s.mem_lineCols side slot⟩, by simp, fun h => ?_, ?_⟩,
      fun full => absurd fits full, rfl, rfl, rfl, rfl, rfl, rfl, rfl, rfl, rfl⟩
    · have run := runs_after h
      rw [State.headOn_congr geometry] at run
      simpa [asm_u, -Fin.getElem_fin] using run
    · have drops : u.dropRecords side = s.dropRecords side := by simp [State.dropRecords, asm_u]
      have blinds : ∀ heads, u.blindRecords side heads = s.blindRecords side heads := fun heads =>
        State.blindRecords_congr side heads fun h _ => by simp [asm_u]
      have store_u : u.store = s.store.adding (s.missRecords side slot) := rfl
      simp only [drops, blinds, State.headsOn_congr geometry, blind, store_u, Store.adding_adding, List.append_assoc]
  · have eq := u.offerLine_dropped side slot (s.lineCols side slot) (by simpa [asm_u] using fits)
    rw [closed, eq]
    refine ⟨by simp [asm_u], by simp [asm_u], fun other ne => by simp [asm_u, PerSide.get_set, ne], heads_after,
      fun room => absurd room fits, fun _ => ⟨by simp [asm_u], by simp [asm_u], ?_, rfl⟩, rfl, rfl, rfl, rfl, rfl, rfl,
      rfl, rfl, rfl⟩
    cases run : (s.asm.get side).dropRun <;> simp [asm_u, extendDropRun_eq, run]

end Sys2Proof.Machine
end

section
/-! SUPPORT. The frame of closures and openings, the cascade of closures, and the opening of a slot as its specification. -/

namespace Sys2Proof.Machine

/-! ### What closures and openings leave as it was -/

/-- The closing and the opening of slots change, beyond the assemblers, the states and misses of heads and the notices of
the ports, and they make records. -/
structure State.AssemblyFrame (s t : State) : Prop where
  pos : t.pos = s.pos
  eng : t.eng = s.eng
  lanes : t.lanes = s.lanes
  marks : t.marks = s.marks
  runState : t.runState = s.runState
  now : t.now = s.now
  pending : t.pending = s.pending
  freeDraws : t.freeDraws = s.freeDraws
  headWait : ∀ side, (t.asm.get side).headWait = (s.asm.get side).headWait
  store : ∃ made, t.store = s.store.adding made
  geometry : ∀ h : HeadId, (t.head h).geometry = (s.head h).geometry
  linkUp : ∀ h : HeadId, (t.head h).linkUp = (s.head h).linkUp
  counters : ∀ h : HeadId, (t.head h).counters = (s.head h).counters
  phase : ∀ p : Port, (t.ports.get p).phase = (s.ports.get p).phase
  held : ∀ p : Port, (t.ports.get p).held = (s.ports.get p).held

theorem State.AssemblyFrame.refl (s : State) : s.AssemblyFrame s :=
  ⟨rfl, rfl, rfl, rfl, rfl, rfl, rfl, rfl, fun _ => rfl, ⟨[], (Store.adding_nil _).symm⟩, fun _ => rfl, fun _ => rfl,
    fun _ => rfl, fun _ => rfl, fun _ => rfl⟩

theorem State.AssemblyFrame.trans {s t u : State} (h : s.AssemblyFrame t) (k : t.AssemblyFrame u) :
    s.AssemblyFrame u := by
  obtain ⟨made, hmade⟩ := h.store
  obtain ⟨more, hmore⟩ := k.store
  exact
    { pos := k.pos.trans h.pos
      eng := k.eng.trans h.eng
      lanes := k.lanes.trans h.lanes
      marks := k.marks.trans h.marks
      runState := k.runState.trans h.runState
      now := k.now.trans h.now
      pending := k.pending.trans h.pending
      freeDraws := k.freeDraws.trans h.freeDraws
      headWait := fun side => (k.headWait side).trans (h.headWait side)
      store := ⟨made ++ more, by rw [hmore, hmade, Store.adding_adding]⟩
      geometry := fun g => (k.geometry g).trans (h.geometry g)
      linkUp := fun g => (k.linkUp g).trans (h.linkUp g)
      counters := fun g => (k.counters g).trans (h.counters g)
      phase := fun p => (k.phase p).trans (h.phase p)
      held := fun p => (k.held p).trans (h.held p) }

theorem headAfterClosure_linkUp (slot : Slot) (h : HeadId) (r : Head) :
    (headAfterClosure slot h r).linkUp = r.linkUp := by
  unfold headAfterClosure
  split_ifs <;> rfl

theorem headAfterClosure_counters (slot : Slot) (h : HeadId) (r : Head) :
    (headAfterClosure slot h r).counters = r.counters := by
  unfold headAfterClosure
  split_ifs <;> rfl

/-- The closure of a line keeps that frame. -/
theorem State.lineClosed.frame {s t : State} {side : Side} {slot : Slot} {rest : List Slot}
    (closed : s.lineClosed t side slot rest) : s.AssemblyFrame t := by
  obtain ⟨-, headWait, others, heads, queued, dropped, ports, pos, eng, lanes, marks, runState, now, pending, draws⟩ :=
    closed
  refine ⟨pos, eng, lanes, marks, runState, now, pending, draws, fun other => ?_, ?_, fun h => ?_, fun h => ?_,
    fun h => ?_, fun p => ?_, fun p => ?_⟩
  · by_cases e : other = side
    · rw [e, headWait]
    · rw [others other e]
  · by_cases fits : (s.asm.get side).queue.length < 4
    · obtain ⟨-, -, -, store⟩ := queued fits
      exact ⟨_, store⟩
    · obtain ⟨-, -, -, store⟩ := dropped fits
      exact ⟨_, store⟩
  · rw [heads]
    split
    · exact headAfterClosure_geometry ..
    · rfl
  · rw [heads]
    split
    · exact headAfterClosure_linkUp ..
    · rfl
  · rw [heads]
    split
    · exact headAfterClosure_counters ..
    · rfl
  · rw [ports]
    split
    · rfl
    · simp [PortState.withHeadChange]
  · rw [ports]
    split
    · rfl
    · simp [PortState.withHeadChange]

theorem State.closeOldest_frame (s : State) (side : Side) : s.AssemblyFrame (s.closeOldest side) := by
  cases slots : (s.asm.get side).slots with
  | nil =>
    have same : s.closeOldest side = s := by simp [State.closeOldest, slots]
    rw [same]
    exact .refl s
  | cons slot rest => exact (s.closeOldest_lineClosed side slot rest slots).frame

theorem State.closeOldest_other (s : State) {side other : Side} (ne : other ≠ side) :
    (s.closeOldest side).asm.get other = s.asm.get other := by
  cases slots : (s.asm.get side).slots with
  | nil => simp [State.closeOldest, slots]
  | cons slot rest =>
    obtain ⟨-, -, others, -⟩ := s.closeOldest_lineClosed side slot rest slots
    exact others other ne

theorem State.closeOldest_slots (s : State) (side : Side) :
    ((s.closeOldest side).asm.get side).slots = (s.asm.get side).slots.tail := by
  cases slots : (s.asm.get side).slots with
  | nil => simp [State.closeOldest, slots]
  | cons slot rest => exact (s.closeOldest_lineClosed side slot rest slots).1

/-! ### The cascade (R42) -/

/-- A relation that holds from a state to itself, passes on, and holds of every closure holds of a cascade. -/
theorem State.cascade_induction (side : Side) (R : State → State → Prop) (refl : ∀ s, R s s)
    (trans : ∀ s t u, R s t → R t u → R s u) (closes : ∀ s, R s (s.closeOldest side)) (n : Nat) (s : State) :
    R s (s.cascade side n) := by
  induction n generalizing s with
  | zero => exact refl s
  | succ n ih =>
    rw [State.cascade]
    split
    · exact refl s
    · split
      · exact trans _ _ _ (closes s) (ih _)
      · exact refl s

theorem State.closeReady_frame (s : State) (side : Side) : s.AssemblyFrame (s.closeReady side) :=
  State.cascade_induction side _ .refl (fun _ _ _ => .trans) (·.closeOldest_frame side) _ s

theorem State.closeReady_other (s : State) {side other : Side} (ne : other ≠ side) :
    (s.closeReady side).asm.get other = s.asm.get other :=
  State.cascade_induction side (fun s t => t.asm.get other = s.asm.get other) (fun _ => rfl)
    (fun _ _ _ h k => k.trans h) (fun s => s.closeOldest_other ne) _ s

/-- R42: the READY slots that no older slot holds back close one after the other. -/
theorem State.cascade_linesClosed (side : Side) (n : Nat) (s : State) (enough : (s.asm.get side).slots.length ≤ n) :
    State.linesClosed side ((s.asm.get side).slots.dropWhile (·.ready)) ((s.asm.get side).slots.takeWhile (·.ready)) s
      (s.cascade side n) := by
  induction n generalizing s with
  | zero => simp [List.length_eq_zero_iff.mp (Nat.le_zero.mp enough), State.linesClosed, State.cascade]
  | succ n ih =>
    cases slots : (s.asm.get side).slots with
    | nil => simp [State.linesClosed, State.cascade, slots]
    | cons slot rest =>
      by_cases ready : slot.ready = true
      · have rest_eq := s.closeOldest_slots side
        rw [slots, List.tail_cons] at rest_eq
        have closed := ih (s.closeOldest side) (by simp_all)
        rw [rest_eq] at closed
        simp only [State.cascade, slots, ready, if_true, List.takeWhile_cons, List.dropWhile_cons, State.linesClosed]
        refine ⟨s.closeOldest side, ?_, closed⟩
        rw [List.takeWhile_append_dropWhile]
        exact s.closeOldest_lineClosed side slot rest slots
      · simp [State.cascade, slots, ready, State.linesClosed]

/-- R40, R42: a forced closure closes the oldest slot and then the READY slots that stand at the head of the order. -/
theorem State.forcedClosure_linesClosed (s : State) (side : Side) (oldest : Slot) (more : List Slot)
    (slots : (s.asm.get side).slots = oldest :: more) :
    State.linesClosed side (more.dropWhile (·.ready)) (oldest :: more.takeWhile (·.ready)) s
      ((s.closeOldest side).closeReady side) := by
  have rest_eq := s.closeOldest_slots side
  rw [slots, List.tail_cons] at rest_eq
  have closed := State.cascade_linesClosed side _ (s.closeOldest side) le_rfl
  rw [rest_eq] at closed
  refine ⟨s.closeOldest side, ?_, ?_⟩
  · rw [List.takeWhile_append_dropWhile]
    exact s.closeOldest_lineClosed side oldest more slots
  · rw [State.closeReady, rest_eq]
    exact closed

/-- The slots that are left when slots have closed. -/
theorem State.linesClosed_slots {side : Side} {left closed : List Slot} {s t : State}
    (lines : State.linesClosed side left closed s t) (some_closed : closed ≠ []) : (t.asm.get side).slots = left := by
  induction closed generalizing s with
  | nil => exact absurd rfl some_closed
  | cons slot more ih =>
    obtain ⟨u, first, others⟩ := lines
    cases more with
    | nil =>
      rw [others]
      exact first.1
    | cons next more => exact ih others (by simp)

/-! ### The opening of a slot (R38, R40) -/

/-- R40: the state of an assembler that has made room for a slot. -/
def State.roomMade (s : State) (side : Side) : State :=
  if (s.asm.get side).slots.length < 4 then s else (s.closeOldest side).closeReady side

theorem State.roomMade_frame (s : State) (side : Side) : s.AssemblyFrame (s.roomMade side) := by
  rw [State.roomMade]
  split
  · exact .refl s
  · exact (s.closeOldest_frame side).trans (State.closeReady_frame _ side)

theorem State.roomMade_other (s : State) {side other : Side} (ne : other ≠ side) :
    (s.roomMade side).asm.get other = s.asm.get other := by
  rw [State.roomMade]
  split
  · rfl
  · rw [State.closeReady_other _ ne, State.closeOldest_other _ ne]

/-- R40: an assembler of at most four slots has room. -/
theorem State.roomMade_length (s : State) (side : Side) (four : (s.asm.get side).slots.length ≤ 4) :
    ((s.roomMade side).asm.get side).slots.length < 4 := by
  rw [State.roomMade]
  split
  case isTrue room => exact room
  case isFalse full =>
    cases slots : (s.asm.get side).slots with
    | nil => simp [slots] at full
    | cons oldest more =>
      rw [State.linesClosed_slots (s.forcedClosure_linesClosed side oldest more slots) (by simp)]
      have := List.length_dropWhile_le (·.ready) more
      simp only [slots, List.length_cons] at four
      omega

theorem State.openSlot_eq (s : State) (side : Side) (line : LineNo) (trigger : Position) (on : s.hasHead side = true) :
    s.openSlot side line trigger
      = (s.roomMade side).modAsm side fun a =>
          { a with slots := a.slots ++ [(s.roomMade side).newSlot side line trigger] } := by
  rw [State.openSlot, if_pos on]
  rfl

theorem State.openSlot_headless (s : State) (side : Side) (line : LineNo) (trigger : Position)
    (off : s.hasHead side = false) : s.openSlot side line trigger = s := by
  simp [State.openSlot, off]

theorem State.openSlot_frame (s : State) (side : Side) (line : LineNo) (trigger : Position) :
    s.AssemblyFrame (s.openSlot side line trigger) := by
  cases on : s.hasHead side with
  | false => exact (s.openSlot_headless side line trigger on).symm ▸ .refl s
  | true =>
    rw [s.openSlot_eq side line trigger on]
    refine (s.roomMade_frame side).trans ⟨rfl, rfl, rfl, rfl, rfl, rfl, rfl, rfl, fun other => ?_,
      ⟨[], (Store.adding_nil _).symm⟩, fun _ => rfl, fun _ => rfl, fun _ => rfl, fun _ => rfl, fun _ => rfl⟩
    by_cases e : other = side <;> simp [PerSide.get_set, e]

theorem State.openSlot_other (s : State) {side other : Side} (line : LineNo) (trigger : Position) (ne : other ≠ side) :
    (s.openSlot side line trigger).asm.get other = s.asm.get other := by
  cases on : s.hasHead side with
  | false => rw [s.openSlot_headless side line trigger on]
  | true => rw [s.openSlot_eq side line trigger on, State.modAsm_asm, PerSide.get_set_ne _ _ ne, s.roomMade_other ne]

theorem State.openSlot_length (s : State) (side : Side) (line : LineNo) (trigger : Position)
    (four : (s.asm.get side).slots.length ≤ 4) : ((s.openSlot side line trigger).asm.get side).slots.length ≤ 4 := by
  cases on : s.hasHead side with
  | false => rwa [s.openSlot_headless side line trigger on]
  | true =>
    have room := s.roomMade_length side four
    rw [s.openSlot_eq side line trigger on, State.modAsm_asm, PerSide.get_set_same]
    simp only [List.length_append, List.length_singleton]
    omega

/-- R38, R40: an issued trigger opens a slot in the assembler of a side as the rules of the opening say. -/
theorem State.openSlot_slotOpened (s : State) (side : Side) (line : LineNo) (trigger : Position) :
    s.slotOpened (s.openSlot side line trigger) side line trigger := by
  have frame := s.roomMade_frame side
  have isNew : ∀ u : State, s.AssemblyFrame u →
      let slot := u.newSlot side line trigger
      slot.line = line ∧ slot.position = trigger - BitVec.ofNat 32 (s.pos.offset.get side)
        ∧ slot.deadline = s.now + (s.asm.get side).headWait ∧ slot.ready = false
        ∧ ∀ h : HeadId,
          slot.contributions[h] = none ∧ (h ∈ slot.expected ↔ s.headOn side h = true ∧ (u.head h).state = .live)
            ∧ (h ∈ slot.absent ↔ s.headOn side h = true ∧ (u.head h).state = .absent) := by
    intro u frame
    simp [State.newSlot, State.linePosition, frame.pos, frame.now, frame.headWait, State.headOn_congr frame.geometry]
  refine ⟨s.openSlot_headless side line trigger, fun on room => ?_, fun oldest more on slots three => ?_⟩
  · have same : s.roomMade side = s := if_pos room
    refine ⟨_, isNew s (.refl s), ?_⟩
    rw [s.openSlot_eq side line trigger on, same]
    rfl
  · have forced : s.roomMade side = (s.closeOldest side).closeReady side := if_neg (by simp [slots, three])
    refine ⟨s.roomMade side, _, ?_, isNew _ frame, s.openSlot_eq side line trigger on⟩
    rw [forced]
    exact s.forcedClosure_linesClosed side oldest more slots

end Sys2Proof.Machine
end

section
/-! SUPPORT. Edges and counts, the firing and the loss of orders, splices, and the bodies of SET_LINE and of the queries. -/

namespace Sys2Proof.Machine

/-! ### Kinds of edges (R1, R2) -/

theorem edgeKind_forward : ∀ held new : Bool × Bool, (held, new) ∈ forwardEdges → edgeKind held new = .forward := by
  decide

theorem edgeKind_backward : ∀ held new : Bool × Bool, (new, held) ∈ forwardEdges → edgeKind held new = .backward := by
  decide

theorem edgeKind_both_change : ∀ a b : Bool, edgeKind (a, b) (!a, !b) = .illegal := by decide

/-- The state with the held pair of ENC_A and ENC_B at these levels. -/
def State.holding (s : State) (a b : Bool) : State := s.modPos fun u => { u with encA := a, encB := b }

theorem exec_encoderEdge_forward {s : State} {a b : Bool}
    (edge : ((s.pos.encA, s.pos.encB), a, b) ∈ forwardEdges) :
    exec (.encoderEdge a b) s = .next (s.holding a b).forwardCount := by
  change Host.Outcome.next _ = _
  rw [edgeKind_forward _ _ edge]
  rfl

theorem exec_encoderEdge_backward {s : State} {a b : Bool}
    (edge : ((a, b), s.pos.encA, s.pos.encB) ∈ forwardEdges) :
    exec (.encoderEdge a b) s = .next (s.holding a b).backwardCount := by
  change Host.Outcome.next _ = _
  rw [edgeKind_backward _ _ edge]
  rfl

theorem exec_encoderEdge_illegal (s : State) :
    exec (.encoderEdge (!s.pos.encA) (!s.pos.encB)) s
      = .next (s.holding (!s.pos.encA) (!s.pos.encB)).illegalTransition := by
  change Host.Outcome.next _ = _
  rw [edgeKind_both_change]
  rfl

/-! ### Firing (R148 to R150) -/

/-- Firings change the outputs and confirm windows of markers, and make records. -/
def State.FiringFrame (s t : State) : Prop :=
  ∃ (markers : Vector Marker 8) (made : List Offer),
    t = { s with marks := { s.marks with markers := markers }, store := s.store.adding made }
      ∧ ∀ k : MarkerId, markers[k].record = (s.marker k).record

theorem State.FiringFrame.refl (s : State) : s.FiringFrame s :=
  ⟨s.marks.markers, [], by simp, fun _ => rfl⟩

theorem State.FiringFrame.trans {s t u : State} (h : s.FiringFrame t) (k : t.FiringFrame u) : s.FiringFrame u := by
  obtain ⟨first, made, rfl, same⟩ := h
  obtain ⟨second, more, rfl, same'⟩ := k
  exact ⟨second, made ++ more, by simp, fun j => (same' j).trans (same j)⟩

theorem Marker.pulse_record (m : Marker) (now : Nat) : (m.pulse now).record = m.record := by
  unfold Marker.pulse
  split <;> rfl

theorem Marker.openWindow_record (m : Marker) (now : Nat) (o : Order) : (m.openWindow now o).record = m.record := by
  unfold Marker.openWindow
  split <;> rfl

/-- A change of one marker that keeps its record, with one record made. -/
theorem State.FiringFrame.of_modMarker (s : State) (o : Order) (f : Marker → Marker) (content : Content)
    (keeps : ∀ m, (f m).record = m.record) : s.FiringFrame ((s.modMarker o.marker f).firingRecord o content) := by
  refine ⟨_, _, rfl, fun k => ?_⟩
  rw [vecModify_get]
  split
  · exact keeps _
  · rfl

theorem State.fire_frame (s : State) (o : Order) : s.FiringFrame (s.fire o) := by
  simp only [State.fire]
  cases (s.marker o.marker).record.mode with
  | normal => exact .of_modMarker _ _ _ _ fun m => by rw [Marker.openWindow_record, Marker.pulse_record]
  | inhibit => exact ⟨s.marks.markers, _, rfl, fun _ => rfl⟩
  | force =>
    refine .of_modMarker _ _ _ _ fun m => ?_
    split <;> rfl

theorem State.foldl_fire_frame (s : State) (orders : List Order) : s.FiringFrame (orders.foldl State.fire s) := by
  induction orders generalizing s with
  | nil => exact .refl s
  | cons o rest ih => exact (s.fire_frame o).trans (ih (s.fire o))

/-- R148: the orders at the new position leave the schedule and fire. -/
theorem State.fireAt_frame (s : State) (web : Position) :
    (s.setOrders (s.marks.orders.filter (·.firePos ≠ web))).FiringFrame (s.fireAt web) := State.foldl_fire_frame _ _

/-- R148: a position that no order waits for fires nothing. -/
theorem State.fireAt_none (s : State) (web : Position) (none_waits : ∀ o ∈ s.marks.orders, o.firePos ≠ web) :
    s.fireAt web = s := by
  have fires : s.marks.orders.filter (·.firePos = web) = [] :=
    List.filter_eq_nil_iff.mpr fun o mem => by simpa using none_waits o mem
  have stay : s.marks.orders.filter (·.firePos ≠ web) = s.marks.orders :=
    List.filter_eq_self.mpr fun o mem => by simpa using none_waits o mem
  rw [State.fireAt, fires, stay]
  rfl

/-! ### The divider and the triggers (R7 to R13) -/

/-- R11, R12: the state in which an issued trigger reaches the assemblers. -/
def State.triggered (s : State) : State :=
  { s with
    pos :=
      { s.pos with
        pitch := s.pos.pendingPitch.getD s.pos.pitch, pendingPitch := none
        divider := s.pos.pendingPitch.getD s.pos.pitch
        lineNumber := s.pos.lineNumber + 1, sinceTrigger := 0, skipped := none
        trigPulses := s.pos.trigPulses + 1 }
    store :=
      s.store.adding
        (match s.pos.skipped with
        | none => []
        | some run =>
          [plainOffer .positionUnit
            { side := none, lane := none, position := run.first, content := .skipped run.last run.count run.preceding }
            none]) }

/-- R7, R11: an underflow whose trigger the holdoff lets through. -/
theorem State.divide_issued (s : State) (last : s.pos.divider ≤ 1)
    (elapsed : s.pos.holdoff = 0 ∨ s.pos.holdoff ≤ s.pos.sinceTrigger) :
    s.divide = s.triggered.openSlots (s.pos.lineNumber + 1) s.pos.web := by
  have due : s.pos.divider - 1 = 0 := by omega
  have test : s.pos.loadDivider.holdoffElapsed = true := by
    rw [PositionUnit.holdoffElapsed, Bool.or_eq_true, decide_eq_true_eq, decide_eq_true_eq]
    exact elapsed
  simp only [State.divide, due, if_true, State.modPos_pos, test, State.issueTrigger]
  congr 1
  cases run : s.pos.skipped <;>
    simp [State.closeSkipped, State.triggered, run, PositionUnit.loadDivider, PositionUnit.pulseTrig, State.modPos,
      State.offer_eq]

/-- R7, R11: an underflow whose trigger the holdoff holds back. -/
theorem State.divide_skipped (s : State) (last : s.pos.divider ≤ 1) (inside : s.pos.sinceTrigger < s.pos.holdoff) :
    s.divide = s.modPos fun u => u.loadDivider.skipTrigger := by
  have due : s.pos.divider - 1 = 0 := by omega
  have test : s.pos.loadDivider.holdoffElapsed = false := by
    rw [PositionUnit.holdoffElapsed, Bool.or_eq_false_iff, decide_eq_false_iff_not, decide_eq_false_iff_not]
    exact ⟨Nat.ne_zero_of_lt inside, Nat.not_le_of_lt inside⟩
  simp only [State.divide, due, if_true, State.modPos_pos, test]
  rfl

/-- R7: a count that leaves the divider counts. -/
theorem State.divide_counted (s : State) (left : 2 ≤ s.pos.divider) :
    s.divide = s.modPos fun u => { u with divider := u.divider - 1 } := by
  rw [State.divide, if_neg (by omega)]

theorem State.openSlots_frame (s : State) (line : LineNo) (trigger : Position) :
    s.AssemblyFrame (s.openSlots line trigger) :=
  (s.openSlot_frame .top line trigger).trans (State.openSlot_frame _ .bottom line trigger)

/-- What the divider and the triggers leave of a position unit. -/
structure PositionUnit.TriggerFrame (u v : PositionUnit) : Prop where
  web : v.web = u.web
  highWater : v.highWater = u.highWater
  encA : v.encA = u.encA
  encB : v.encB = u.encB
  encoderFault : v.encoderFault = u.encoderFault
  holdoff : v.holdoff = u.holdoff
  spliceCapture : v.spliceCapture = u.spliceCapture
  prevSpliceCapture : v.prevSpliceCapture = u.prevSpliceCapture
  spliceDistance : v.spliceDistance = u.spliceDistance
  offset : v.offset = u.offset

/-- A state that differs in the position unit alone, as the frame of an assembly that makes no record. -/
theorem State.AssemblyFrame.of_pos (s : State) (u : PositionUnit) :
    { s with pos := u, store := s.store.adding [] }.AssemblyFrame { s with pos := u } := by
  rw [Store.adding_nil]
  exact .refl _

/-- R7, R11: the divider changes the position unit's own fields of triggering, and then at most opens slots. -/
theorem State.divide_frame (s : State) :
    ∃ u made, s.pos.TriggerFrame u ∧ { s with pos := u, store := s.store.adding made }.AssemblyFrame s.divide := by
  by_cases left : 2 ≤ s.pos.divider
  · rw [s.divide_counted left]
    exact ⟨_, [], by constructor <;> rfl, .of_pos s _⟩
  · by_cases elapsed : s.pos.holdoff = 0 ∨ s.pos.holdoff ≤ s.pos.sinceTrigger
    · rw [s.divide_issued (by omega) elapsed]
      exact ⟨s.triggered.pos, _, by constructor <;> rfl, s.triggered.openSlots_frame _ _⟩
    · rw [s.divide_skipped (by omega) (by omega)]
      exact ⟨_, [], by constructor <;> rfl, .of_pos s _⟩

/-! ### The forward count (R1, R4, R148) -/

/-- R4: H after the web position has moved on to `web`. -/
def highWaterAt (web highWater : Position) : Position := if ahead web highWater then web else highWater

/-- R1, R4: the state with the web position moved on by one, and H with it. -/
def State.movedOn (s : State) : State :=
  s.modPos fun u => { u with web := u.web + 1, highWater := highWaterAt (u.web + 1) u.highWater }

theorem State.movedOn_rewound (s : State) (behind : ahead (s.pos.web + 1) s.pos.highWater = false) :
    s.movedOn = s.modPos fun u => { u with web := u.web + 1 } := by
  simp only [State.movedOn, State.modPos, highWaterAt, behind, Bool.false_eq_true, if_false]

theorem State.movedOn_advancing (s : State) (advancing : ahead (s.pos.web + 1) s.pos.highWater = true) :
    s.movedOn = s.modPos fun u => { u with web := u.web + 1, highWater := u.web + 1 } := by
  simp only [State.movedOn, State.modPos, highWaterAt, advancing, if_true]

theorem State.forwardCount_rewound (s : State) (behind : ahead (s.pos.web + 1) s.pos.highWater = false) :
    s.forwardCount = s.movedOn.fireAt (s.pos.web + 1) := by
  simp only [State.forwardCount, State.movedOn, highWaterAt, State.modPos, behind, Bool.false_eq_true, if_false]

theorem State.forwardCount_idle (s : State) (rests : s.runState ≠ .inspecting) :
    s.forwardCount = s.movedOn.fireAt (s.pos.web + 1) := by
  cases advancing : ahead (s.pos.web + 1) s.pos.highWater with
  | false => exact s.forwardCount_rewound advancing
  | true => simp only [State.forwardCount, State.movedOn, highWaterAt, State.modPos, advancing, rests, if_true, if_false]

theorem State.forwardCount_advancing (s : State) (advancing : ahead (s.pos.web + 1) s.pos.highWater = true)
    (inspects : s.runState = .inspecting) : s.forwardCount = s.movedOn.divide.fireAt (s.pos.web + 1) := by
  have web : s.movedOn.divide.pos.web = s.pos.web + 1 := by
    obtain ⟨u, made, kept, frame⟩ := s.movedOn.divide_frame
    exact (congrArg PositionUnit.web frame.pos).trans kept.web
  rw [← web]
  simp only [State.forwardCount, State.movedOn, highWaterAt, State.modPos, advancing, inspects, if_true]

/-- R1, R4, R7, R148: what a forward count does: the web position and H move on, the position unit's own fields of
triggering may change, slots may open, and the orders at the new position leave the schedule and fire. -/
theorem State.forwardCount_frame (s : State) :
    ∃ u made v, s.movedOn.pos.TriggerFrame u ∧ { s with pos := u, store := s.store.adding made }.AssemblyFrame v
      ∧ s.forwardCount = v.fireAt (s.pos.web + 1) := by
  by_cases divides : ahead (s.pos.web + 1) s.pos.highWater = true ∧ s.runState = .inspecting
  · obtain ⟨u, made, kept, frame⟩ := s.movedOn.divide_frame
    exact ⟨u, made, _, kept, frame, s.forwardCount_advancing divides.1 divides.2⟩
  · have moved : s.forwardCount = s.movedOn.fireAt (s.pos.web + 1) := by
      rcases not_and_or.mp divides with behind | rests
      · exact s.forwardCount_rewound (by simpa using behind)
      · exact s.forwardCount_idle rests
    exact ⟨s.movedOn.pos, [], s.movedOn, by constructor <;> rfl, .of_pos s _, moved⟩

/-! ### The backward count (R1, R5, R147) -/

/-- R147: the LOST record of an order. -/
def Order.lostOffer (o : Order) : Offer :=
  plainOffer .marks
    { side := o.side, lane := o.lane, position := o.firePos,
      content := .lost { marker := o.marker, firePos := o.firePos, source := o.source, firstKind := o.firstKind } } none

/-- R147: orders are reported LOST one after the other. -/
theorem State.foldl_lost (s : State) (orders : List Order) :
    orders.foldl (fun s o => s.markTroubleRecord o.side o.lane o.firePos (.lost o.fields)) s
      = { s with
          ports := if orders = [] then s.ports else s.ports.all PortState.withMarkTrouble
          store := s.store.adding (orders.map Order.lostOffer) } := by
  induction orders generalizing s with
  | nil => simp
  | cons o rest ih =>
    have first : s.markTroubleRecord o.side o.lane o.firePos (.lost o.fields)
        = { s with ports := s.ports.all PortState.withMarkTrouble, store := s.store.adding [o.lostOffer] } := rfl
    rw [List.foldl_cons, first, ih]
    simp

/-- R147: a deep-rewind resync empties the schedule, with a LOST record of each order. -/
theorem State.loseOrders_eq (s : State) :
    s.loseOrders
      = { s with
          marks := { s.marks with orders := [] }
          ports := if s.marks.orders = [] then s.ports else s.ports.all PortState.withMarkTrouble
          store := s.store.adding (s.marks.orders.map Order.lostOffer) } := State.foldl_lost _ _

theorem State.backwardCount_plain (s : State) (near : (s.pos.highWater - (s.pos.web - 1)).toNat ≤ 2 ^ 30) :
    s.backwardCount = s.modPos fun u => { u with web := u.web - 1 } := if_neg (Nat.not_lt.mpr near)

theorem State.backwardCount_resync (s : State) (deep : 2 ^ 30 < (s.pos.highWater - (s.pos.web - 1)).toNat) :
    s.backwardCount = (s.modPos fun u => { u with web := u.web - 1, highWater := u.web - 1 }).loseOrders := if_pos deep

/-! ### Splices (R15, R62, R66) -/

/-- R66: the OVERFLOW record of a splice that a side's full arrival list refuses. -/
def ArrivalEntry.refusedOffer (x : ArrivalEntry) (side : Side) : Offer :=
  plainOffer .laneMap
    { side := some side, lane := none, position := x.arrival, content := .overflowSplices x.capture } none

/-- R66: what a splice that is offered to one side's arrival list changes. -/
theorem State.offerArrival_eq (s : State) (side : Side) (x : ArrivalEntry) :
    s.offerArrival side x
      = { s with
          lanes :=
            { s.lanes with
              arrivals := s.lanes.arrivals.set side
                (if s.arrivalRoom side then s.lanes.arrivals.get side ++ [x] else s.lanes.arrivals.get side) }
          store := s.store.adding (if s.arrivalRoom side then [] else [x.refusedOffer side]) } := by
  cases room : s.arrivalRoom side with
  | true => simp [State.offerArrival, room, State.modLanes]
  | false => simp [State.offerArrival, room, State.offer_eq, ArrivalEntry.refusedOffer]

/-- R66: what a splice that is offered to both arrival lists changes, TOP before BOTTOM. -/
theorem State.offerArrival_both (s : State) (x : ArrivalEntry) :
    (s.offerArrival .top x).offerArrival .bottom x
      = { s with
          lanes :=
            { s.lanes with
              arrivals :=
                { top := if s.arrivalRoom .top then s.lanes.arrivals.top ++ [x] else s.lanes.arrivals.top
                  bottom := if s.arrivalRoom .bottom then s.lanes.arrivals.bottom ++ [x] else s.lanes.arrivals.bottom } }
          store := s.store.adding
            ((if s.arrivalRoom .top then [] else [x.refusedOffer .top])
              ++ if s.arrivalRoom .bottom then [] else [x.refusedOffer .bottom]) } := by
  have room : (s.offerArrival .top x).arrivalRoom .bottom = s.arrivalRoom .bottom := by
    rw [State.offerArrival_eq]
    rfl
  rw [State.offerArrival_eq, room, State.offerArrival_eq]
  simp [PerSide.set, PerSide.get]

/-- R62: whether the pending switch waits for a splice to be attached. -/
def State.attaches (s : State) : Bool :=
  match s.lanes.switch with
  | some w => decide (w.mode = .atSplice) && w.attached.isNone
  | none => false

theorem State.wantsSplice_cases (s : State) :
    (s.attaches = false ∧ s.wantsSplice = none)
      ∨ ∃ w, s.lanes.switch = some w ∧ s.attaches = true ∧ s.wantsSplice = some w := by
  cases pending : s.lanes.switch with
  | none => simp [State.wantsSplice, State.attaches, pending]
  | some w =>
    have attaches : s.attaches = decide (w.mode = .atSplice ∧ w.attached.isNone) := by
      simp only [State.attaches, pending, Bool.decide_and, Bool.decide_eq_true]
    by_cases waits : w.mode = .atSplice ∧ w.attached.isNone
    · exact .inr ⟨w, rfl, by simp only [attaches, waits, decide_true, and_self],
        by simp only [State.wantsSplice, pending, if_pos waits]⟩
    · exact .inl ⟨by simp only [attaches, waits, decide_false], by simp only [State.wantsSplice, pending, if_neg waits]⟩

/-- R62, R66: what a splice that is handed on changes. -/
theorem State.handOnSplice_eq (s : State) (capture arrival : Position) :
    s.handOnSplice capture arrival
      = let x : ArrivalEntry := { arrival := arrival, capture := capture, attached := s.attaches }
        let u : State := s.modLanes fun l =>
          { l with
            switch :=
              if s.attaches then
                l.switch.map fun w =>
                  { w with
                    attached := some { top := s.arrivalRoom .top, bottom := s.arrivalRoom .bottom }
                    position := some arrival }
              else l.switch }
        (u.offerArrival .top x).offerArrival .bottom x := by
  rcases s.wantsSplice_cases with ⟨no, wants⟩ | ⟨w, pending, yes, wants⟩
  · simp only [State.handOnSplice, wants, no, Bool.false_eq_true, if_false]
    rfl
  · simp only [State.handOnSplice, wants, yes, if_true]
    simp only [State.modLanes, pending, Option.map_some]

/-! ### The body of SET_LINE (R16, R171) -/

/-- The bytes of a field, which stand in the body if its presence bit is set. -/
def fieldBytes (present : Bool) (bytes : List Byte) : List Byte := if present then bytes else []

/-- The value of a field, if its presence bit is set. -/
def fieldValue (present : Bool) (n : Nat) : Option Nat := if present then some n else none

theorem takeField2_fieldBytes (present : Bool) (hi lo : Byte) (rest : List Byte) :
    takeField2 present (fieldBytes present [hi, lo] ++ rest) = some (fieldValue present (be16 hi lo), rest) := by
  cases present <;> rfl

theorem takeField4_fieldBytes (present : Bool) (b3 b2 b1 b0 : Byte) (rest : List Byte) :
    takeField4 present (fieldBytes present [b3, b2, b1, b0] ++ rest)
      = some (fieldValue present (be32 b3 b2 b1 b0), rest) := by
  cases present <;> rfl

@[simp] theorem fieldValue_getD (present : Bool) (n d : Nat) :
    (fieldValue present n).getD d = if present then n else d := by
  cases present <;> rfl

@[simp] theorem fieldValue_or (present : Bool) (n : Nat) (d : Option Nat) :
    (fieldValue present n).or d = if present then some n else d := by
  cases present <;> rfl

@[simp] theorem fieldValue_isSome (present : Bool) (n : Nat) : (fieldValue present n).isSome = present := by
  cases present <;> rfl

@[simp] theorem fieldIn_fieldValue (lo hi : Nat) (present : Bool) (n : Nat) :
    fieldIn lo hi (fieldValue present n) = true ↔ (present = true → lo ≤ n ∧ n ≤ hi) := by
  cases present <;> simp [fieldIn, fieldValue]

/-- R171: the six fields of a SET_LINE body in their order, each if its presence bit is set. -/
theorem readSetLine_fields (pr p1 p0 h1 h0 d3 d2 d1 d0 w1 w0 t3 t2 t1 t0 b3 b2 b1 b0 : Byte) :
    readSetLine
        (pr :: (fieldBytes (pr.getLsbD 0) [p1, p0] ++ fieldBytes (pr.getLsbD 1) [h1, h0]
          ++ fieldBytes (pr.getLsbD 2) [d3, d2, d1, d0] ++ fieldBytes (pr.getLsbD 3) [w1, w0]
          ++ fieldBytes (pr.getLsbD 4) [t3, t2, t1, t0] ++ fieldBytes (pr.getLsbD 5) [b3, b2, b1, b0]))
      = some
          { pitch := fieldValue (pr.getLsbD 0) (be16 p1 p0), holdoff := fieldValue (pr.getLsbD 1) (be16 h1 h0)
            spliceDistance := fieldValue (pr.getLsbD 2) (be32 d3 d2 d1 d0)
            headWait := fieldValue (pr.getLsbD 3) (be16 w1 w0), offsetTop := fieldValue (pr.getLsbD 4) (be32 t3 t2 t1 t0)
            offsetBottom := fieldValue (pr.getLsbD 5) (be32 b3 b2 b1 b0) } := by
  have last := takeField4_fieldBytes (pr.getLsbD 5) b3 b2 b1 b0 []
  rw [List.append_nil] at last
  simp only [readSetLine, bitOf, List.append_assoc, takeField2_fieldBytes, takeField4_fieldBytes, last,
    Option.bind_eq_bind, Option.bind_some, List.isEmpty_nil, if_true]

/-- R16: what SET_LINE does when the port takes it and its body is read. -/
theorem exec_setLine_read (s : State) (p : Port) (body : List Byte) (b : SetLineBody) (taken : s.takes p)
    (read : readSetLine body = some b) :
    exec (.setLine p body) s
      = .next
          (if b.inRange = false then s.refused p body.length .range
          else if (b.offsetTop.isSome || b.offsetBottom.isSome) = true ∧ s.runState ≠ .standby then
            s.refused p body.length .state
          else
            { s.answered p body.length { code := .ok, body := [] } with
              pos := s.pos.applyLine b
              asm := { top := s.asm.top.applyLine b, bottom := s.asm.bottom.applyLine b } }) := by
  change Host.Outcome.next _ = _
  rw [takeCommand_taken _ _ _ _ _ taken, read]
  refine congrArg _ ?_
  cases ok : b.inRange with
  | false => simp [ok, State.refuse_begun]
  | true =>
    by_cases off : (b.offsetTop.isSome || b.offsetBottom.isSome) = true ∧ s.runState ≠ .standby
    · have off' : ((b.offsetTop.isSome || b.offsetBottom.isSome) && decide (s.runState ≠ .standby)) = true := by
        simpa using off
      rw [if_neg (by simp), if_pos off]
      simp only [ok]
      refine (if_neg (by simp)).trans ((if_pos off').trans ?_)
      exact State.refuse_begun ..
    · have off' : ¬((b.offsetTop.isSome || b.offsetBottom.isSome) && decide (s.runState ≠ .standby)) = true := by
        simpa using off
      rw [if_neg (by simp), if_neg off, ← State.respond_begun]
      simp only [ok]
      exact (if_neg (by simp)).trans (if_neg off')

/-! ### The bodies of the queries (R172) -/

theorem byteBool_eq (b : Bool) : byteBool b = [boolByte b] := by cases b <;> rfl

theorem byteSide_eq (side : Side) : byteSide (some side) = [sideByte side] := by cases side <;> rfl

theorem byteBank_eq (bank : Bank) : byteBank bank = [bankByte bank] := by cases bank <;> rfl

theorem byteDirection_eq (d : Direction) : byteDirection d = [if d = .ascending then 0 else 1] := by cases d <;> rfl

theorem byteHeadState_eq (x : HeadState) : byteHeadState x = [headStateByte x] := by cases x <;> rfl

theorem byteRunState_eq (x : RunState) : byteRunState x = [runStateByte x] := by cases x <;> rfl

/-- R171: the byte of a marker mode. -/
def markerModeByte : MarkerMode → Byte
  | .normal => 0
  | .inhibit => 1
  | .force => 2

theorem byteMarkerMode_eq (x : MarkerMode) : byteMarkerMode x = [markerModeByte x] := by cases x <;> rfl

/-- R171: the byte of an output state. -/
def outputByte : OutputState → Byte
  | .idle => 0
  | .pulsing => 1
  | .forced => 2

theorem byteOutput_eq (x : OutputState) : byteOutput x = [outputByte x] := by cases x <;> rfl

/-- R171: the byte of a switch mode. -/
def switchModeByte : SwitchMode → Byte
  | .now => 0
  | .atPosition => 1
  | .atSplice => 2

theorem byteSwitchMode_eq (x : SwitchMode) : byteSwitchMode x = [switchModeByte x] := by cases x <;> rfl

/-- R172: a presence byte and an optional position, for the first of a list. -/
theorem bytes_head_position (front : List Byte) (orders : List Order) :
    front ++ byteBool orders.head?.isSome ++ bytesPosOr0 (orders.head?.map (·.firePos))
      = front ++
        match orders with
        | [] => [0, 0, 0, 0, 0]
        | x :: _ => 1 :: bytes4 x.firePos.toNat := by
  rw [List.append_assoc]
  cases orders <;> rfl

/-- R161: the teach items of GET_STATUS. -/
theorem bytes_teach (front : List Byte) (teach : Option Teach) :
    front ++ byteBool teach.isSome ++ bytes2 ((teach.map (·.n)).getD 0) ++ bytes2 ((teach.map (·.taken)).getD 0)
      = front ++
        match teach with
        | none => [0, 0, 0, 0, 0]
        | some k => 1 :: (bytes2 k.n ++ bytes2 k.taken) := by
  rw [List.append_assoc, List.append_assoc]
  cases teach <;> rfl

/-- R65: the pending switch in GET_STATUS. -/
theorem switchBytes_eq (switch : Option SwitchRecord) :
    switchBytes switch
      = match switch with
        | none => [0xFF, 0, 0, 0, 0, 0, 0, 0]
        | some w =>
          [switchModeByte w.mode]
            ++ (match w.position with | none => [0, 0, 0, 0, 0] | some at' => 1 :: bytes4 at'.toNat)
            ++ [boolByte w.switched.top, boolByte w.switched.bottom] := by
  cases switch with
  | none => rfl
  | some w =>
    simp only [switchBytes, byteSwitchMode_eq, byteBool_eq]
    cases w.position <;> rfl

end Sys2Proof.Machine
end

section
/-! SUPPORT. The positions a step relates, the moves a step can make of them, and what leaves them as they were. -/

namespace Sys2Proof.Machine

/-- The part of the state that R5, R143 and R146 relate: the web position, H, the schedule and the merge windows. -/
structure PositionView where
  web : Position
  highWater : Position
  orders : List Order
  windows : MarkerId → Nat

/-- The view of a state. -/
def State.positions (s : State) : PositionView :=
  { web := s.pos.web, highWater := s.pos.highWater, orders := s.marks.orders
    windows := fun k => (s.marker k).record.mergeWindow }

/-- What a step can do to the positions: nothing; a reset, or a deep-rewind resync; START; a forward count; a backward
count; a change of the merge window of markers without an order; and the merging and the placing of a candidate. -/
inductive PositionMove (v : PositionView) : PositionView → Prop where
  | stay : PositionMove v v
  | cleared (w : PositionView) (together : w.highWater = w.web) (no_order : w.orders = []) : PositionMove v w
  | started : PositionMove v { v with highWater := v.web }
  | advanced :
    PositionMove v
      { v with
        web := v.web + 1, highWater := highWaterAt (v.web + 1) v.highWater
        orders := v.orders.filter (·.firePos ≠ v.web + 1) }
  | rewound (near : (v.highWater - (v.web - 1)).toNat ≤ 2 ^ 30) : PositionMove v { v with web := v.web - 1 }
  | windowSet (windows : MarkerId → Nat) (idle : ∀ o ∈ v.orders, windows o.marker = v.windows o.marker) :
    PositionMove v { v with windows := windows }
  | merged (w : Nat) (c : Candidate) : PositionMove v { v with orders := mergeInto w c v.orders }
  | placed (o : Order) (is_ahead : ahead o.firePos v.web = true)
    (alone : ∀ x ∈ v.orders, x.marker = o.marker → within (v.windows o.marker) x.firePos o.firePos = false) :
    PositionMove v { v with orders := insertOrder v.web o v.orders }

theorem PositionMove.of_eq {v w : PositionView} (h : w = v) : PositionMove v w := h ▸ .stay

theorem PositionMove.trans_eq {u v w : PositionView} (h : v = u) (move : PositionMove v w) : PositionMove u w := h ▸ move

/-! ### What leaves the positions as they are -/

theorem State.positions_of_eq {s t : State} (pos : t.pos = s.pos) (marks : t.marks = s.marks) :
    t.positions = s.positions := by
  simp only [State.positions, State.marker, pos, marks]

theorem State.AssemblyFrame.positions {s t : State} (h : s.AssemblyFrame t) : t.positions = s.positions :=
  State.positions_of_eq h.pos h.marks

section
variable (s : State)

@[simp] theorem State.positions_modHead (h : HeadId) (f : Head → Head) : (s.modHead h f).positions = s.positions := rfl
@[simp] theorem State.positions_modAsm (side : Side) (f : Assembler → Assembler) :
    (s.modAsm side f).positions = s.positions := rfl
@[simp] theorem State.positions_modEng (side : Side) (f : Engine → Engine) :
    (s.modEng side f).positions = s.positions := rfl
@[simp] theorem State.positions_modLanes (f : LaneMap → LaneMap) : (s.modLanes f).positions = s.positions := rfl
@[simp] theorem State.positions_modStore (f : Store → Store) : (s.modStore f).positions = s.positions := rfl
@[simp] theorem State.positions_modPort (p : Port) (f : PortState → PortState) :
    (s.modPort p f).positions = s.positions := rfl
@[simp] theorem State.positions_modReading (p : Port) (f : Reading → Reading) :
    (s.modReading p f).positions = s.positions := rfl
@[simp] theorem State.positions_letPass (d : Nat) : (s.letPass d).positions = s.positions := rfl
@[simp] theorem State.positions_reachTime (t : Nat) : (s.reachTime t).positions = s.positions := rfl
@[simp] theorem State.positions_offer (w : Writer) (d : Draft) (flag : Option Bool) :
    (s.offer w d flag).positions = s.positions := rfl
@[simp] theorem State.positions_offerAll (w : Writer) (made : List Made) :
    (s.offerAll w made).positions = s.positions := by
  rw [State.offerAll_eq]
  rfl
@[simp] theorem State.positions_inStep (step : EventStep) (f : State → State) :
    (s.inStep step f).positions = (f s).positions := rfl
@[simp] theorem State.positions_noteTransfer (p : Port) : (s.noteTransfer p).positions = s.positions := rfl
@[simp] theorem State.positions_shiftOut (p : Port) (bytes : List Byte) :
    (s.shiftOut p bytes).positions = s.positions := rfl
@[simp] theorem State.positions_shiftFiller (p : Port) (n : Nat) : (s.shiftFiller p n).positions = s.positions := rfl
@[simp] theorem State.positions_beginCommand (p : Port) : (s.beginCommand p).positions = s.positions := rfl
@[simp] theorem State.positions_respond (p : Port) (r : Response) : (s.respond p r).positions = s.positions := rfl
@[simp] theorem State.positions_refuse (p : Port) (code : ResponseCode) : (s.refuse p code).positions = s.positions := rfl
@[simp] theorem State.positions_answerOk (p : Port) : (s.answerOk p).positions = s.positions := rfl
@[simp] theorem State.positions_portFault (p : Port) (cause : FaultCause) :
    (s.portFault p cause).positions = s.positions := rfl
@[simp] theorem State.positions_raiseHeadChange : s.raiseHeadChange.positions = s.positions := rfl
@[simp] theorem State.positions_raiseStoreGap (p : Port) : (s.raiseStoreGap p).positions = s.positions := rfl
@[simp] theorem State.positions_markTroubleRecord (side : Option Side) (lane : Option LaneId) (position : Position)
    (content : Content) : (s.markTroubleRecord side lane position content).positions = s.positions := rfl
@[simp] theorem State.positions_changeRunState (new : RunState) (port : Option Port) :
    (s.changeRunState new port).positions = s.positions := rfl

/-- A change of a marker that leaves its merge window. -/
theorem State.positions_modMarker (k : MarkerId) (f : Marker → Marker)
    (window : ∀ m, (f m).record.mergeWindow = m.record.mergeWindow) : (s.modMarker k f).positions = s.positions := by
  simp only [State.positions, State.marker_modMarker]
  congr 1
  funext j
  split
  · exact window _
  · rfl

theorem State.positions_ite {s a b : State} {c : Prop} [Decidable c] (yes : a.positions = s.positions)
    (no : b.positions = s.positions) : (if c then a else b).positions = s.positions := by
  split
  · exact yes
  · exact no

/-- What every item of a list leaves as it is, the list leaves as it is. -/
theorem State.positions_foldl {α : Type} (f : State → α → State) (kept : ∀ s x, (f s x).positions = s.positions)
    (l : List α) : (l.foldl f s).positions = s.positions := by
  induction l generalizing s with
  | nil => rfl
  | cons x rest ih => rw [List.foldl_cons, ih, kept]

theorem State.positions_atEachPort (f : State → Port → State) (kept : ∀ s p, (f s p).positions = s.positions) :
    (s.atEachPort f).positions = s.positions := by
  simp only [State.atEachPort, kept]

/-! ### Heads and assemblers -/

@[simp] theorem State.positions_setMisses (h : HeadId) (n : Nat) : (s.setMisses h n).positions = s.positions := rfl

@[simp] theorem State.positions_setHeadState (h : HeadId) (new : HeadState) (cause : HeadCause) :
    (s.setHeadState h new cause).positions = s.positions := by
  unfold State.setHeadState
  simp only
  split <;> rfl

@[simp] theorem State.positions_openSlots (line : LineNo) (trigger : Position) :
    (s.openSlots line trigger).positions = s.positions := (s.openSlots_frame line trigger).positions

@[simp] theorem State.positions_closeReady (side : Side) : (s.closeReady side).positions = s.positions :=
  (s.closeReady_frame side).positions

@[simp] theorem State.positions_closeDropRun (side : Side) : (s.closeDropRun side).positions = s.positions := by
  rw [State.closeDropRun_eq]
  rfl

@[simp] theorem State.positions_closeBlindRun (side : Side) (h : HeadId) :
    (s.closeBlindRun side h).positions = s.positions := by
  rw [State.closeBlindRun_eq]
  rfl

@[simp] theorem State.positions_addContribution (side : Side) (line : LineNo) (h : HeadId) (c : Contribution) :
    (s.addContribution side line h c).positions = s.positions := by
  simp [State.addContribution]

@[simp] theorem State.positions_waitExpiry (side : Side) (line : LineNo) :
    (s.waitExpiry side line).positions = s.positions := by
  unfold State.waitExpiry
  split
  · rfl
  · split <;> simp

@[simp] theorem State.positions_closeSkipped : s.closeSkipped.positions = s.positions := by
  unfold State.closeSkipped
  split <;> rfl

/-! ### The lane map unit -/

@[simp] theorem State.positions_changeOverAtTake (side : Side) (position : Position) (w : SwitchRecord) :
    (s.changeOverAtTake side position w).positions = s.positions := rfl

@[simp] theorem State.positions_changeOverAtOnce (side : Side) (w : SwitchRecord) :
    (s.changeOverAtOnce side w).positions = s.positions := by
  simp only [State.changeOverAtOnce, State.positions_offerAll]
  rfl

@[simp] theorem State.positions_changeOverIf (side : Side) (now : Bool) :
    (s.changeOverIf side now).positions = s.positions := by
  unfold State.changeOverIf
  split
  · split <;> simp
  · rfl

@[simp] theorem State.positions_completeSwitch : s.completeSwitch.positions = s.positions := by
  unfold State.completeSwitch
  split
  · split <;> rfl
  · rfl

@[simp] theorem State.positions_changeOverHeadless : s.changeOverHeadless.positions = s.positions := by
  simp [State.changeOverHeadless]

@[simp] theorem State.positions_requestSwitch (w : SwitchRecord) : (s.requestSwitch w).positions = s.positions := by
  unfold State.requestSwitch
  simp only
  split <;> simp

@[simp] theorem State.positions_setLane (p : Port) (bank : Bank) (side : Side) (lane : LaneId) (b : SetLaneBody) :
    (s.setLane p bank side lane b).positions = s.positions := by
  unfold State.setLane
  split_ifs
  · rfl
  · split
    · rfl
    · simp only
      split_ifs <;> rfl

@[simp] theorem State.positions_offerArrival (side : Side) (x : ArrivalEntry) :
    (s.offerArrival side x).positions = s.positions := by
  rw [State.offerArrival_eq]
  rfl

@[simp] theorem State.positions_handOnSplice (capture arrival : Position) :
    (s.handOnSplice capture arrival).positions = s.positions := by
  rw [State.handOnSplice_eq]
  simp

@[simp] theorem State.positions_abortTeachAtSplice (side : Side) (position : Position) :
    (s.abortTeachAtSplice side position).positions = s.positions := by
  unfold State.abortTeachAtSplice
  split <;> rfl

@[simp] theorem State.positions_serveArrival (side : Side) (position : Position) (x : ArrivalEntry)
    (rest : List ArrivalEntry) : (s.serveArrival side position x rest).positions = s.positions := by
  simp only [State.serveArrival, State.positions_abortTeachAtSplice]
  split <;> rfl

@[simp] theorem State.positions_serveArrivals (side : Side) (position : Position) (l : List ArrivalEntry) :
    (State.serveArrivals side position l s).positions = s.positions := by
  induction l generalizing s with
  | nil => rfl
  | cons x rest ih =>
    rw [State.serveArrivals]
    split
    · rw [ih, State.positions_serveArrival]
    · rfl

@[simp] theorem State.positions_stageChangeover (side : Side) (position : Position) :
    (s.stageChangeover side position).positions = s.positions := by
  simp only [State.stageChangeover, State.positions_completeSwitch]
  split
  · split <;> simp
  · simp

/-! ### The engines -/

@[simp] theorem State.positions_runOperation (side : Side) (line : LineEntry) :
    (s.runOperation side line).positions = s.positions := by
  simp [State.runOperation]

@[simp] theorem State.positions_takeSetCal (p : Port) (side : Side) (b : SetCalBody) :
    (s.takeSetCal p side b).positions = s.positions := by
  unfold State.takeSetCal
  split_ifs <;> rfl

@[simp] theorem State.positions_takeTeach (p : Port) (side : Side) (b : TeachBody) :
    (s.takeTeach p side b).positions = s.positions := by
  unfold State.takeTeach
  split_ifs <;> rfl

@[simp] theorem State.positions_takeTeachAbort (p : Port) (side : Side) :
    (s.takeTeachAbort p side).positions = s.positions := by
  unfold State.takeTeachAbort
  split <;> rfl

@[simp] theorem State.positions_takeEngineCommand (p : Port) (side : Side) (c : EngineCommand) (body : List Byte) :
    (s.takeEngineCommand p side c body).positions = s.positions := by
  cases c with
  | setCal =>
    simp only [State.takeEngineCommand]
    split <;> simp
  | teach =>
    simp only [State.takeEngineCommand]
    split <;> simp
  | teachAbort => exact s.positions_takeTeachAbort p side

@[simp] theorem State.positions_reachEngine (p : Port) (side : Side) (c : EngineCommand) (body : List Byte) :
    (s.reachEngine p side c body).positions = s.positions := by
  unfold State.reachEngine
  split <;> simp

@[simp] theorem State.positions_releaseLine (side : Side) : (s.releaseLine side).positions = s.positions :=
  State.positions_foldl _ _ (fun s c => by simp [State.takeHeld]) _

@[simp] theorem State.positions_setSide (p : Port) (side : Side) (width : Nat) :
    (s.setSide p side width).positions = s.positions := by
  unfold State.setSide
  split_ifs <;> rfl

/-! ### The head links -/

@[simp] theorem State.positions_count (h : HeadId) (f : HeadCounters → HeadCounters) :
    (s.count h f).positions = s.positions := rfl

@[simp] theorem State.positions_accept (h : HeadId) (line : LineNo) (c : Contribution) :
    (s.accept h line c).positions = s.positions := by
  simp only [State.accept, State.positions_addContribution]
  split_ifs <;> simp

@[simp] theorem State.positions_takeHeader (h : HeadId) (hd : PacketHeader) (f : Nat → Contribution) :
    (s.takeHeader h hd f).positions = s.positions := by
  unfold State.takeHeader
  split
  · rfl
  · split <;> simp

@[simp] theorem State.positions_takePacket (h : HeadId) (bytes : List Byte) (f : Nat → List Byte → Contribution) :
    (s.takePacket h bytes f).positions = s.positions := by
  unfold State.takePacket
  split
  · split
    · split <;> simp
    · rfl
  · rfl

@[simp] theorem State.positions_applyEnable (h : HeadId) (enabled : Bool) :
    (s.applyEnable h enabled).positions = s.positions := by
  unfold State.applyEnable
  split_ifs <;> simp

@[simp] theorem State.positions_setHead (p : Port) (h : HeadId) (b : SetHeadBody) :
    (s.setHead p h b).positions = s.positions := by
  unfold State.setHead
  split
  · rfl
  · split
    · rfl
    · split_ifs <;> simp

/-! ### The record store -/

@[simp] theorem State.positions_setPending (p : Port) (n : Nat) : (s.setPending p n).positions = s.positions := rfl

@[simp] theorem State.positions_evictFrom (x : Record) (p : Port) : (s.evictFrom x p).positions = s.positions := by
  simp only [State.evictFrom]
  split_ifs <;> rfl

@[simp] theorem State.positions_evictIfFull : s.evictIfFull.positions = s.positions := by
  unfold State.evictIfFull
  split
  · rfl
  · split
    · rfl
    · exact State.positions_atEachPort _ _ fun s p => s.positions_evictFrom _ p

@[simp] theorem State.positions_countAppended (x : Record) (p : Port) :
    (s.countAppended x p).positions = s.positions := by
  unfold State.countAppended
  split <;> rfl

@[simp] theorem State.positions_takeFront (w : Writer) : (s.takeFront w).positions = s.positions := by
  unfold State.takeFront
  split
  · rfl
  · split <;> rfl

@[simp] theorem State.positions_setFilter (p : Port) (b : SetFilterBody) : (s.setFilter p b).positions = s.positions := by
  simp only [State.setFilter]
  split <;> rfl

/-! ### Run control -/

@[simp] theorem State.positions_startHead (h : HeadId) : (s.startHead h).positions = s.positions := by
  unfold State.startHead
  split <;> simp

@[simp] theorem State.positions_prepareStart : s.prepareStart.positions = s.positions := by
  simp only [State.prepareStart, State.positions_changeOverHeadless, State.positions_modEng]
  exact State.positions_foldl _ _ State.positions_startHead _

@[simp] theorem State.positions_closeCoverage (side : Side) : (s.closeCoverage side).positions = s.positions :=
  (State.positions_foldl _ _ (fun s h => s.positions_closeBlindRun side h) _).trans (s.positions_closeDropRun side)

@[simp] theorem State.positions_stopTeach (side : Side) : (s.stopTeach side).positions = s.positions := by
  unfold State.stopTeach
  split <;> simp

@[simp] theorem State.positions_closingSteps : s.closingSteps.positions = s.positions := by
  simp [State.closingSteps, State.bothSides, State.truncateBlobs, State.stopStreaks, State.dropCandidates,
    State.clearBins]

@[simp] theorem State.positions_endDrain : s.endDrain.positions = s.positions := by
  simp [State.endDrain]

@[simp] theorem State.positions_stopRun (p : Port) : (s.stopRun p).positions = s.positions := by
  simp [State.stopRun]

/-- R10, R164 step 4: H becomes the web position. -/
theorem State.positions_syncTrigger :
    s.syncTrigger.positions = { s.positions with highWater := s.positions.web } := by
  simp only [State.syncTrigger, State.positions_openSlots]
  rfl

/-- R164: START sets H to the web position. -/
theorem State.positions_startRun (p : Port) :
    (s.startRun p).positions = { s.positions with highWater := s.positions.web } := by
  simp only [State.startRun, State.positions_answerOk, State.positions_inStep, State.positions_changeRunState,
    State.positions_syncTrigger, State.positions_prepareStart]

end

end Sys2Proof.Machine
end

section
/-! SUPPORT. Every command and every step is one of the moves of the positions. -/

namespace Sys2Proof.Machine

/-! ### Candidates (R146) -/

/-- R146: a candidate is late or lost, merged into an order, or placed ahead and alone. -/
theorem State.place_move (s : State) (c : Candidate) : PositionMove s.positions (s.place c).1.positions := by
  simp only [State.place]
  split_ifs with late joined full
  · exact .stay
  · exact .merged _ c
  · exact .stay
  · have is_ahead : ahead c.firePos s.pos.web = true := by simpa using late
    refine .placed _ is_ahead fun x mem same => ?_
    have apart : joins (s.marker c.marker).record.mergeWindow c x = false :=
      Bool.eq_false_iff.mpr fun joins => joined (List.any_eq_true.mpr ⟨x, mem, joins⟩)
    rwa [joins, decide_eq_true same, Bool.true_and] at apart

/-- R131, R144: an appended record yields at most one candidate. -/
theorem State.considerRecord_move (s : State) (r : Record) (flag : Option Bool) :
    PositionMove s.positions (s.considerRecord r flag).positions := by
  unfold State.considerRecord
  split
  · exact s.place_move _
  · exact .stay

/-- R127 to R131: what an append does to the positions is done by the candidate of its record. -/
theorem State.append_move (s : State) (o : Offer) : PositionMove s.positions (s.append o).positions := by
  simp only [State.append]
  refine .trans_eq ?_ (State.considerRecord_move _ _ _)
  rw [State.positions_atEachPort _ _ fun s p => s.positions_countAppended _ p]
  simp

theorem State.arbitrate_move (s : State) : PositionMove s.positions s.arbitrate.positions := by
  unfold State.arbitrate
  split
  · exact .stay
  · split
    · exact .stay
    · exact .trans_eq (by simp) (State.append_move _ _)

/-! ### Port commands -/

/-- A command frame does to the positions at most what its block does. -/
theorem takeFrame_move (s : State) (p : Port) (len : Nat) (act : State → State)
    (acts : ∀ u : State, PositionMove u.positions (act u).positions) :
    PositionMove s.positions (takeFrame p len act s).positions := by
  simp only [takeFrame]
  split_ifs
  · exact .of_eq (s.positions_shiftFiller p _)
  · exact .of_eq (by simp)
  · exact .trans_eq (by simp) (acts _)

theorem takeCommand_move {β : Type} (s : State) (p : Port) (body : List Byte) (read : List Byte → Option β)
    (act : β → State → State) (acts : ∀ b (u : State), PositionMove u.positions (act b u).positions) :
    PositionMove s.positions (takeCommand p body read act s).positions := by
  refine takeFrame_move s p _ _ fun u => ?_
  split
  · exact .of_eq (u.positions_refuse p _)
  · exact acts _ u

/-- A command frame whose block leaves the positions as they are leaves them so. -/
theorem takeCommand_stay {β : Type} (s : State) (p : Port) (body : List Byte) (read : List Byte → Option β)
    (act : β → State → State) (acts : ∀ b (u : State), (act b u).positions = u.positions) :
    PositionMove s.positions (takeCommand p body read act s).positions :=
  takeCommand_move s p body read act fun b u => .of_eq (acts b u)

theorem Marker.setRecord_record (m : Marker) (r : MarkerRecord) : (m.setRecord r).record = r := by
  unfold Marker.setRecord Marker.changeMode
  split_ifs <;> rfl

/-- R141: a change of merge window is refused while the marker has an order. -/
theorem execSetMarker_move (s : State) (p : Port) (body : List Byte) :
    ∃ t, execSetMarker p body s = .next t ∧ PositionMove s.positions t.positions := by
  refine ⟨_, rfl, takeCommand_move s p body _ _ fun b u => ?_⟩
  split
  case h_2 => exact .stay
  case h_1 k r index record =>
    split_ifs with busy
    · exact .stay
    · refine .windowSet ((u.modMarker k (·.setRecord r)).positions.windows) fun o mem => ?_
      change ((u.modMarker k _).marker o.marker).record.mergeWindow = (u.marker o.marker).record.mergeWindow
      rw [State.marker_modMarker]
      split
      case isFalse => rfl
      case isTrue same =>
        have waits : u.marks.orders.any (·.marker = k) = true := List.any_eq_true.mpr ⟨o, mem, decide_eq_true same⟩
        rw [Marker.setRecord_record, same]
        exact not_ne_iff.mp fun differs => busy ⟨differs, waits⟩

/-- R145. -/
theorem execMark_move (s : State) (p : Port) (body : List Byte) :
    ∃ t, execMark p body s = .next t ∧ PositionMove s.positions t.positions := by
  refine ⟨_, rfl, takeCommand_move s p body _ _ fun b u => ?_⟩
  split
  · exact .stay
  · split_ifs
    · exact .stay
    · exact u.place_move _

/-! ### Encoder edges -/

theorem State.forwardCount_move (s : State) : PositionMove s.positions s.forwardCount.positions := by
  obtain ⟨u, made, v, kept, frame, count⟩ := s.forwardCount_frame
  obtain ⟨markers, fired, result, records⟩ := v.fireAt_frame (s.pos.web + 1)
  have same : s.forwardCount.positions
      = { s.positions with
          web := s.pos.web + 1, highWater := highWaterAt (s.pos.web + 1) s.pos.highWater
          orders := s.marks.orders.filter (·.firePos ≠ s.pos.web + 1) } := by
    have web : v.pos.web = s.pos.web + 1 := (congrArg _ frame.pos).trans kept.web
    have highWater : v.pos.highWater = highWaterAt (s.pos.web + 1) s.pos.highWater :=
      (congrArg _ frame.pos).trans kept.highWater
    have marks : v.marks = s.marks := frame.marks
    simp only [count, result, State.positions, State.marker, State.setOrders_pos, State.setOrders_marks, web, highWater,
      marks]
    congr 1
    funext k
    have window : (v.marker k).record.mergeWindow = (s.marker k).record.mergeWindow :=
      congrArg (fun m : Scheduler => m.markers[k].record.mergeWindow) marks
    exact (congrArg MarkerRecord.mergeWindow (records k)).trans window
  rw [same]
  exact .advanced

theorem State.backwardCount_move (s : State) : PositionMove s.positions s.backwardCount.positions := by
  by_cases near : (s.pos.highWater - (s.pos.web - 1)).toNat ≤ 2 ^ 30
  · rw [s.backwardCount_plain near]
    exact .rewound near
  · rw [s.backwardCount_resync (by omega), State.loseOrders_eq]
    exact .cleared _ rfl rfl

theorem execEncoderEdge_move (s : State) (a b : Bool) :
    ∃ t, execEncoderEdge a b s = .next t ∧ PositionMove s.positions t.positions := by
  refine ⟨_, rfl, ?_⟩
  split
  · exact .stay
  · exact (s.holding a b).forwardCount_move
  · exact (s.holding a b).backwardCount_move
  · unfold State.illegalTransition
    split <;> exact .stay

/-! ### Every command -/

/-- What every command can do to the positions. -/
theorem exec_move (c : Instr) (s : State) : ∃ t, exec c s = .next t ∧ PositionMove s.positions t.positions := by
  cases c with
  | powerOn a b => exact ⟨_, rfl, .cleared _ rfl rfl⟩
  | initEnd =>
    refine ⟨_, rfl, .of_eq ?_⟩
    split
    · exact State.positions_atEachPort _ _ fun _ _ => rfl
    · rfl
  | resetPin a b =>
    refine ⟨_, rfl, ?_⟩
    split <;> exact .cleared _ rfl rfl
  | encoderEdge a b => exact execEncoderEdge_move s a b
  | spliceEdge => exact ⟨_, rfl, .of_eq (State.positions_ite (State.positions_handOnSplice ..) rfl)⟩
  | linkUp h =>
    refine ⟨_, rfl, .of_eq ?_⟩
    split
    · rfl
    · simp only
      split <;> simp
  | linkDown h =>
    refine ⟨_, rfl, .of_eq ?_⟩
    split
    · simp only
      split <;> simp
    · rfl
  | completePacket h bytes => exact ⟨_, rfl, .of_eq (s.positions_takePacket ..)⟩
  | abortedPacket h bytes => exact ⟨_, rfl, .of_eq (s.positions_takePacket ..)⟩
  | waitExpiry side line => exact ⟨_, rfl, .of_eq (s.positions_waitExpiry ..)⟩
  | lineTake side =>
    refine ⟨_, rfl, .of_eq ?_⟩
    split
    · exact State.positions_runOperation ..
    · rfl
  | lineOperationEnd side =>
    refine ⟨_, rfl, .of_eq ?_⟩
    split
    · exact s.positions_releaseLine side
    · rfl
  | recordAppend => exact ⟨_, rfl, s.arbitrate_move⟩
  | pulseEnd k =>
    refine ⟨_, rfl, .of_eq ?_⟩
    split
    · rfl
    · exact State.positions_modMarker _ _ _ fun _ => rfl
  | mcfEdge k => exact ⟨_, rfl, .of_eq (State.positions_modMarker _ _ _ fun _ => rfl)⟩
  | confirmWindowExpiry k =>
    refine ⟨_, rfl, .of_eq ?_⟩
    split
    · rfl
    · rw [State.positions_markTroubleRecord]
      exact State.positions_modMarker _ _ _ fun _ => rfl
  | staleTimerExpiry p =>
    refine ⟨_, rfl, .of_eq ?_⟩
    split <;> rfl
  | drainEnd =>
    refine ⟨_, rfl, .of_eq ?_⟩
    split
    · exact s.positions_endDrain
    · rfl
  | setHead p body =>
    refine ⟨_, rfl, takeCommand_stay s p body _ _ fun b u => ?_⟩
    split
    · rfl
    · exact u.positions_setHead ..
  | getHead p body =>
    refine ⟨_, rfl, takeCommand_stay s p body _ _ fun b u => ?_⟩
    split <;> rfl
  | setLine p body =>
    refine ⟨_, rfl, takeCommand_stay s p body _ _ fun b u => ?_⟩
    split_ifs <;> rfl
  | setCal p body =>
    refine ⟨_, rfl, takeCommand_stay s p body _ _ fun b u => ?_⟩
    split
    · rfl
    · exact u.positions_reachEngine ..
  | teach p body =>
    refine ⟨_, rfl, takeCommand_stay s p body _ _ fun b u => ?_⟩
    split
    · rfl
    · exact u.positions_reachEngine ..
  | teachAbort p body =>
    refine ⟨_, rfl, takeCommand_stay s p body _ _ fun b u => ?_⟩
    split
    · rfl
    · exact u.positions_reachEngine ..
  | setSide p body =>
    refine ⟨_, rfl, takeCommand_stay s p body _ _ fun b u => ?_⟩
    split
    · rfl
    · exact u.positions_setSide ..
  | setRecipe p body =>
    refine ⟨_, rfl, takeCommand_stay s p body _ _ fun b u => ?_⟩
    split
    · rfl
    · split <;> rfl
  | setLane p body =>
    refine ⟨_, rfl, takeCommand_stay s p body _ _ fun b u => ?_⟩
    split
    · exact u.positions_setLane ..
    · rfl
  | switchBank p body =>
    refine ⟨_, rfl, takeCommand_stay s p body _ _ fun b u => ?_⟩
    split
    · rfl
    · split_ifs
      · rfl
      · rfl
      · exact u.positions_requestSwitch _
  | cancelSwitch p body =>
    refine ⟨_, rfl, takeCommand_stay s p body _ _ fun b u => ?_⟩
    split <;> rfl
  | setMarker p body => exact execSetMarker_move s p body
  | mark p body => exact execMark_move s p body
  | getMarker p body =>
    refine ⟨_, rfl, takeCommand_stay s p body _ _ fun b u => ?_⟩
    split <;> rfl
  | readRecords p body => exact ⟨_, rfl, takeCommand_stay s p body _ _ fun b u => rfl⟩
  | setFilter p body =>
    refine ⟨_, rfl, takeCommand_stay s p body _ _ fun b u => ?_⟩
    split
    · rfl
    · exact u.positions_setFilter p b
  | start p body =>
    refine ⟨_, rfl, takeCommand_move s p body _ _ fun b u => ?_⟩
    split_ifs
    · exact .stay
    · exact .stay
    · exact .stay
    · rw [u.positions_startRun p]
      exact .started
  | stop p body =>
    refine ⟨_, rfl, takeCommand_stay s p body _ _ fun b u => ?_⟩
    split
    · rfl
    · exact u.positions_stopRun p
  | setNotices p body => exact ⟨_, rfl, takeCommand_stay s p body _ _ fun b u => rfl⟩
  | getNotice p body => exact ⟨_, rfl, takeCommand_stay s p body _ _ fun b u => rfl⟩
  | getStatus p body => exact ⟨_, rfl, takeCommand_stay s p body _ _ fun b u => rfl⟩
  | portReset p body => exact ⟨_, rfl, takeCommand_stay s p body _ _ fun b u => rfl⟩
  | fetch p n =>
    refine ⟨_, rfl, .of_eq ?_⟩
    unfold State.fetch
    split
    · rfl
    · split <;> rfl
  | unknownCommand p code body =>
    refine ⟨_, rfl, ?_⟩
    split
    · exact takeFrame_move s p _ _ fun u => .stay
    · exact .stay
  | badFrame p code rest =>
    refine ⟨_, rfl, .of_eq ?_⟩
    split
    · simp only
      split <;> rfl
    · rfl

/-- What a step can do to the positions. -/
theorem step_move {s t : State} (h : step s = .next t) : PositionMove s.positions t.positions := by
  cases pending : s.pending with
  | nil =>
    simp only [step, pending] at h
    cases h
    exact .stay
  | cons c rest =>
    simp only [step, pending] at h
    obtain ⟨u, completes, move⟩ := exec_move c { s with pending := rest }
    rw [completes] at h
    cases h
    exact move

end Sys2Proof.Machine
end

section
/-! SUPPORT. The relations of the positions that every step keeps (R5, R143, R146). -/

namespace Sys2Proof.Machine

/-! ### Distances -/

theorem ahead_iff (p q : Position) : ahead p q = true ↔ 1 ≤ (p - q).toNat ∧ (p - q).toNat < 2 ^ 31 := by
  simp [ahead]

theorem distance_pos {p q : Position} (differ : p ≠ q) : 1 ≤ (p - q).toNat := by
  refine Nat.one_le_iff_ne_zero.mpr fun zero => differ (sub_eq_zero.mp ?_)
  exact BitVec.eq_of_toNat_eq zero

/-- The distance ahead of a position after a forward count from behind it. -/
theorem distance_succ {p web : Position} (behind : p ≠ web) : (p - (web + 1)).toNat = (p - web).toNat - 1 := by
  have apart : p.toNat ≠ web.toNat := fun same => behind (BitVec.eq_of_toNat_eq same)
  have one : (1 : Position).toNat = 1 := rfl
  have := p.isLt
  have := web.isLt
  simp only [BitVec.toNat_sub, BitVec.toNat_add, one]
  omega

/-- The distance ahead of a position after a backward count, unless it wraps. -/
theorem distance_pred {p web : Position} (far : (p - web).toNat < 2 ^ 32 - 1) :
    (p - (web - 1)).toNat = (p - web).toNat + 1 := by
  have one : (1 : Position).toNat = 1 := rfl
  have := p.isLt
  have := web.isLt
  simp only [BitVec.toNat_sub, one] at far ⊢
  omega

theorem distance_inj {p q web : Position} (same : (p - web).toNat = (q - web).toNat) : p = q :=
  sub_left_injective (BitVec.eq_of_toNat_eq same)

theorem within_comm (w : Nat) (p q : Position) : within w p q = within w q p := by
  simp only [within, Nat.min_comm]

theorem within_self (w : Nat) (p : Position) : within w p p = true := by
  simp [within]

/-! ### The relations, of the view of a state -/

/-- R5, of the view. -/
def PositionView.Behind (v : PositionView) : Prop := (v.highWater - v.web).toNat ≤ 2 ^ 30

/-- R143, R146, of two orders: orders of one marker stand further apart than its merge window. -/
def PositionView.Separate (v : PositionView) (x y : Order) : Prop :=
  x.marker = y.marker → within (v.windows x.marker) x.firePos y.firePos = false

/-- R143: the order of the schedule. -/
def stands (web : Position) (x y : Order) : Prop :=
  (x.firePos - web).toNat < (y.firePos - web).toNat ∨ (x.firePos = y.firePos ∧ x.marker < y.marker)

/-- R143, of the view. -/
def PositionView.InOrder (v : PositionView) : Prop :=
  v.orders.Pairwise (stands v.web) ∧ ∀ o ∈ v.orders, ahead o.firePos v.web = true

theorem State.webBehindHighWater_iff (s : State) : s.webBehindHighWater ↔ s.positions.Behind := Iff.rfl

theorem State.ordersApart_iff (s : State) : s.ordersApart ↔ s.positions.orders.Pairwise s.positions.Separate := Iff.rfl

theorem State.scheduleInOrder_iff (s : State) : s.scheduleInOrder ↔ s.positions.InOrder := Iff.rfl

/-! ### Merging and placing an order -/

/-- R146: merging a candidate changes a merge count alone. -/
theorem mergeInto_places (w : Nat) (c : Candidate) (orders : List Order) :
    (mergeInto w c orders).map (fun o => (o.marker, o.firePos)) = orders.map fun o => (o.marker, o.firePos) := by
  induction orders with
  | nil => rfl
  | cons o rest ih =>
    rw [mergeInto]
    split
    · rfl
    · rw [List.map_cons, ih, List.map_cons]

/-- A relation of markers and fire positions holds of the orders after a merge if it held before. -/
theorem mergeInto_pairwise {R : MarkerId × Position → MarkerId × Position → Prop} (w : Nat) (c : Candidate)
    {orders : List Order} (h : orders.Pairwise fun x y => R (x.marker, x.firePos) (y.marker, y.firePos)) :
    (mergeInto w c orders).Pairwise fun x y => R (x.marker, x.firePos) (y.marker, y.firePos) := by
  have before := List.pairwise_map.mpr h
  rw [← mergeInto_places w c] at before
  exact List.pairwise_map.mp before

theorem mergeInto_all {P : Position → Prop} (w : Nat) (c : Candidate) {orders : List Order}
    (h : ∀ o ∈ orders, P o.firePos) : ∀ o ∈ mergeInto w c orders, P o.firePos := by
  intro o mem
  have place := List.mem_map_of_mem (f := fun o : Order => (o.marker, o.firePos)) mem
  rw [mergeInto_places] at place
  obtain ⟨x, former, same⟩ := List.mem_map.mp place
  have fire : x.firePos = o.firePos := congrArg Prod.snd same
  exact fire ▸ h x former

/-- R143, R146: a new order joins the others. -/
theorem insertOrder_perm (web : Position) (x : Order) (orders : List Order) :
    (insertOrder web x orders).Perm (x :: orders) := by
  induction orders with
  | nil => exact .refl _
  | cons y rest ih =>
    rw [insertOrder]
    split
    · exact .refl _
    · exact (ih.cons y).trans (.swap x y rest)

theorem standsBefore_iff (web : Position) (x y : Order) : standsBefore web x y = true ↔ stands web x y := by
  have same_place : distanceAhead web x.firePos = distanceAhead web y.firePos ↔ x.firePos = y.firePos :=
    ⟨distance_inj, congrArg _⟩
  simp only [standsBefore, Bool.or_eq_true, Bool.and_eq_true, decide_eq_true_eq, same_place]
  rfl

theorem stands_trans {web : Position} {x y z : Order} (h : stands web x y) (k : stands web y z) : stands web x z := by
  rcases h with near | ⟨place, marker⟩ <;> rcases k with near' | ⟨place', marker'⟩
  · exact .inl (near.trans near')
  · exact .inl (place' ▸ near)
  · exact .inl (place ▸ near')
  · exact .inr ⟨place.trans place', marker.trans marker'⟩

/-- Of two orders that do not share both marker and fire position, one stands before the other. -/
theorem stands_total {web : Position} {x y : Order} (differ : ¬(x.marker = y.marker ∧ x.firePos = y.firePos))
    (h : ¬stands web x y) : stands web y x := by
  rcases lt_trichotomy (x.firePos - web).toNat (y.firePos - web).toNat with near | same | far
  · exact absurd (.inl near) h
  · have place : x.firePos = y.firePos := distance_inj same
    rcases lt_trichotomy x.marker y.marker with low | marker | high
    · exact absurd (.inr ⟨place, low⟩) h
    · exact absurd ⟨marker, place⟩ differ
    · exact .inr ⟨place.symm, high⟩
  · exact .inl far

/-- R143: a new order that shares its marker and fire position with none joins at its place. -/
theorem insertOrder_pairwise (web : Position) (x : Order) {orders : List Order} (sorted : orders.Pairwise (stands web))
    (differs : ∀ y ∈ orders, ¬(x.marker = y.marker ∧ x.firePos = y.firePos)) :
    (insertOrder web x orders).Pairwise (stands web) := by
  induction orders with
  | nil => exact List.pairwise_singleton ..
  | cons y rest ih =>
    obtain ⟨first, sorted_rest⟩ := List.pairwise_cons.mp sorted
    rw [insertOrder]
    split
    case isTrue before =>
      have before := (standsBefore_iff web x y).mp before
      refine List.pairwise_cons.mpr ⟨fun z mem => ?_, sorted⟩
      rcases List.mem_cons.mp mem with rfl | mem
      · exact before
      · exact stands_trans before (first z mem)
    case isFalse behind =>
      refine List.pairwise_cons.mpr ⟨fun z mem => ?_, ih sorted_rest fun z mem => differs z (by simp [mem])⟩
      rcases List.mem_cons.mp ((insertOrder_perm web x rest).subset mem) with rfl | mem
      · exact stands_total (differs y (by simp)) (mt (standsBefore_iff web z y).mpr behind)
      · exact first z mem

/-! ### What a step keeps -/

/-- R5: the web position stays at or behind H and within 2^30 counts of it. -/
theorem PositionMove.behind {v w : PositionView} (move : PositionMove v w) (h : v.Behind) : w.Behind := by
  cases move with
  | stay | windowSet | merged | placed => exact h
  | cleared _ together => simp [PositionView.Behind, together]
  | started => simp [PositionView.Behind]
  | rewound near => exact near
  | advanced =>
    unfold PositionView.Behind at h ⊢
    simp only [highWaterAt]
    split
    case isTrue => simp
    case isFalse rewound =>
      have behind : v.highWater ≠ v.web := fun same => rewound (by simp [same, ahead])
      rw [distance_succ behind]
      exact (Nat.sub_le ..).trans h

/-- R143, R146: the orders of a marker stay further apart than its merge window. -/
theorem PositionMove.apart {v w : PositionView} (move : PositionMove v w) (h : v.orders.Pairwise v.Separate) :
    w.orders.Pairwise w.Separate := by
  cases move with
  | stay | started | rewound => exact h
  | cleared _ _ no_order => simp [no_order]
  | advanced => exact h.filter _
  | windowSet windows idle =>
    refine h.imp_of_mem fun {x y} mem _ sep same => ?_
    have kept := sep same
    rwa [← idle x mem] at kept
  | merged n c =>
    exact mergeInto_pairwise (R := fun x y => x.1 = y.1 → within (v.windows x.1) x.2 y.2 = false) n c h
  | placed o is_ahead alone =>
    have symmetric : ∀ {x y : Order}, v.Separate x y → v.Separate y x := fun {x y} sep same => by
      rw [same, within_comm]
      exact sep same.symm
    refine ((insertOrder_perm v.web o v.orders).pairwise_iff symmetric).mpr (List.pairwise_cons.mpr ⟨?_, h⟩)
    exact fun x mem => symmetric fun same => same ▸ alone x mem same

/-- R143: the schedule stays in ascending distance and marker index, each order ahead. -/
theorem PositionMove.inOrder {v w : PositionView} (move : PositionMove v w) (h : v.InOrder)
    (near : ∀ o ∈ v.orders, (o.firePos - v.web).toNat ≠ 2 ^ 31 - 1) : w.InOrder := by
  obtain ⟨sorted, all_ahead⟩ := h
  cases move with
  | stay | started | windowSet => exact ⟨sorted, all_ahead⟩
  | cleared _ _ no_order => simp [PositionView.InOrder, no_order]
  | merged n c =>
    exact ⟨mergeInto_pairwise
        (R := fun x y => (x.2 - v.web).toNat < (y.2 - v.web).toNat ∨ (x.2 = y.2 ∧ x.1 < y.1)) n c sorted,
      mergeInto_all (P := fun p => ahead p v.web = true) n c all_ahead⟩
  | placed o is_ahead alone =>
    refine ⟨insertOrder_pairwise v.web o sorted fun y mem ⟨marker, place⟩ => ?_, fun x mem => ?_⟩
    · have apart := alone y mem marker.symm
      rw [place, within_self] at apart
      exact absurd apart (by simp)
    · rcases List.mem_cons.mp ((insertOrder_perm v.web o v.orders).subset mem) with rfl | mem
      · exact is_ahead
      · exact all_ahead x mem
  | advanced =>
    have closer : ∀ o ∈ v.orders.filter (·.firePos ≠ v.web + 1),
        (o.firePos - (v.web + 1)).toNat = (o.firePos - v.web).toNat - 1 ∧ 2 ≤ (o.firePos - v.web).toNat :=
      fun o mem => by
      obtain ⟨waits, elsewhere⟩ := List.mem_filter.mp mem
      have reach := (ahead_iff _ _).mp (all_ahead o waits)
      have moved : (o.firePos - (v.web + 1)).toNat = (o.firePos - v.web).toNat - 1 :=
        distance_succ fun here => by simp [here] at reach
      have left := distance_pos (of_decide_eq_true elsewhere)
      omega
    refine ⟨(sorted.filter _).imp_of_mem fun {x y} hx hy => ?_, fun o mem => ?_⟩
    · obtain ⟨x_moved, x_left⟩ := closer x hx
      obtain ⟨y_moved, y_left⟩ := closer y hy
      exact Or.imp_left fun nearer => by dsimp only; omega
    · obtain ⟨moved, left⟩ := closer o mem
      have reach := (ahead_iff _ _).mp (all_ahead o (List.mem_of_mem_filter mem))
      exact (ahead_iff _ _).mpr (by dsimp only; omega)
  | rewound =>
    have further : ∀ o ∈ v.orders,
        (o.firePos - (v.web - 1)).toNat = (o.firePos - v.web).toNat + 1 ∧ (o.firePos - v.web).toNat < 2 ^ 31 - 1 :=
      fun o mem => by
        have reach := (ahead_iff _ _).mp (all_ahead o mem)
        have limit := near o mem
        exact ⟨distance_pred (by omega), by omega⟩
    refine ⟨sorted.imp_of_mem fun {x y} hx hy => ?_, fun o mem => ?_⟩
    · obtain ⟨x_moved, -⟩ := further x hx
      obtain ⟨y_moved, -⟩ := further y hy
      exact Or.imp_left fun nearer => by dsimp only; omega
    · obtain ⟨moved, limit⟩ := further o mem
      exact (ahead_iff _ _).mpr (by dsimp only; omega)

end Sys2Proof.Machine

open Sys2Proof Sys2Proof.Machine

/-- Settles O59: each relation by the cases of what a step can do to the positions. -/
theorem stepKeepsPositionsRelated : Obligations.StepKeepsPositionsRelated := by
  refine ⟨fun s t behind run => ?_, fun s t apart run => ?_, fun s t inOrder near run => ?_⟩
  · rw [State.webBehindHighWater_iff] at behind ⊢
    exact (step_move run).behind behind
  · rw [State.ordersApart_iff] at apart ⊢
    exact (step_move run).apart apart
  · rw [State.scheduleInOrder_iff] at inOrder ⊢
    exact (step_move run).inOrder inOrder near
end

section
/-! SUPPORT. The statements of the position unit, settled. -/

open Sys2Proof Sys2Proof.Machine

/-- Settles O8, by the frames of the forward count and of the firing behind it. -/
theorem forwardCountMovesWeb : Obligations.ForwardCountMovesWeb := by
  intro s a b edge
  obtain ⟨u, made, v, kept, frame, count⟩ := (s.holding a b).forwardCount_frame
  obtain ⟨markers, fired, result, -⟩ := v.fireAt_frame (s.pos.web + 1)
  obtain ⟨opened, store⟩ := frame.store
  have completes := (exec_encoderEdge_forward edge).trans (congrArg Host.Outcome.next (count.trans result))
  refine ⟨_, completes, ?_⟩
  have pos : v.pos = u := frame.pos
  refine ⟨?web, ?encA, ?encB, ?highWater, ?fault, ?holdoff, ?capture, ?previous, ?distance, ?offset, ?orders, frame.eng,
    frame.lanes, frame.runState, frame.now, ?records, ?reading, ?waiting, fun h => ?head, fun p => ?port⟩
  case web => exact (congrArg _ pos).trans kept.web
  case encA => exact (congrArg _ pos).trans kept.encA
  case encB => exact (congrArg _ pos).trans kept.encB
  case highWater => exact (congrArg _ pos).trans kept.highWater
  case fault => exact (congrArg _ pos).trans kept.encoderFault
  case holdoff => exact (congrArg _ pos).trans kept.holdoff
  case capture => exact (congrArg _ pos).trans kept.spliceCapture
  case previous => exact (congrArg _ pos).trans kept.prevSpliceCapture
  case distance => exact (congrArg _ pos).trans kept.spliceDistance
  case offset => exact (congrArg _ pos).trans kept.offset
  case orders => exact congrArg (fun m : Scheduler => m.orders.filter fun o => o.firePos ≠ s.pos.web + 1) frame.marks
  case records =>
    have same : v.store.records = s.store.records := by rw [store]; rfl
    exact same
  case reading =>
    have same : v.store.reading = s.store.reading := by rw [store]; rfl
    exact same
  case waiting =>
    refine ⟨made ++ opened ++ fired, ?_⟩
    change _ = v.store.waiting ++ fired
    rw [store, ← List.append_assoc, ← List.append_assoc]
    rfl
  case head => exact ⟨frame.geometry h, frame.linkUp h, frame.counters h⟩
  case port => exact ⟨frame.phase p, frame.held p⟩
/-- Settles O9: where no order waits at the new position the firing changes nothing, and each case is one equation of
the count. -/
theorem dividerCountsAdvancingCountsAlone : Obligations.DividerCountsAdvancingCountsAlone := by
  intro s a b edge none_waits
  rw [exec_encoderEdge_forward edge]
  have fires_none : ∀ t : State, t.marks.orders = s.marks.orders → t.fireAt (s.pos.web + 1) = t := fun t same =>
    t.fireAt_none _ (same ▸ none_waits)
  refine ⟨fun behind => congrArg _ ?_, fun advancing rests => congrArg _ ?_,
    fun advancing inspects left => congrArg _ ?_⟩
  · rw [(s.holding a b).forwardCount_rewound behind, (s.holding a b).movedOn_rewound behind]
    exact fires_none _ rfl
  · rw [(s.holding a b).forwardCount_idle rests, (s.holding a b).movedOn_advancing advancing]
    exact fires_none _ rfl
  · have counts : (s.holding a b).movedOn.divide = _ := (s.holding a b).movedOn.divide_counted left
    rw [(s.holding a b).forwardCount_advancing advancing inspects, counts, (s.holding a b).movedOn_advancing advancing]
    exact fires_none _ rfl

/-- Settles O10: the issued trigger opens a slot on each side by `openSlot_slotOpened`, which rests on the law of one
closure. -/
theorem underflowIssuesOrSkipsTrigger : Obligations.UnderflowIssuesOrSkipsTrigger := by
  intro s a b edge inspects advancing last four
  rw [exec_encoderEdge_forward edge, (s.holding a b).forwardCount_advancing advancing inspects]
  have due : (s.holding a b).movedOn.pos.divider ≤ 1 := last.le
  refine ⟨fun elapsed => ?_, fun inside none_waits => congrArg _ ?_⟩
  · intro issued
    have reaches : (s.holding a b).movedOn.divide = issued.openSlots (s.pos.lineNumber + 1) (s.pos.web + 1) := by
      rw [(s.holding a b).movedOn.divide_issued due elapsed, (s.holding a b).movedOn_advancing advancing]
      rfl
    let u := issued.openSlot .top (s.pos.lineNumber + 1) (s.pos.web + 1)
    let v := u.openSlot .bottom (s.pos.lineNumber + 1) (s.pos.web + 1)
    have opened : issued.AssemblyFrame v := issued.openSlots_frame _ _
    obtain ⟨markers, fired, result, -⟩ := v.fireAt_frame (s.pos.web + 1)
    rw [reaches]
    refine ⟨u, v, v.fireAt (s.pos.web + 1), rfl, issued.openSlot_slotOpened .., u.openSlot_slotOpened .., ?_, ?_⟩
    · exact fun none_waits => v.fireAt_none _ (opened.marks ▸ none_waits)
    · rw [result]
      refine ⟨opened.pos, rfl, rfl, rfl, opened.eng, opened.lanes, ⟨fired, rfl⟩, fun side => ?_⟩
      cases side with
      | top =>
        change (v.asm.get .top).slots.length ≤ 4
        rw [State.openSlot_other _ _ _ (by decide)]
        exact State.openSlot_length _ _ _ _ (four .top)
      | bottom =>
        refine State.openSlot_length _ _ _ _ ?_
        rw [State.openSlot_other _ _ _ (by decide)]
        exact four .bottom
  · rw [(s.holding a b).movedOn.divide_skipped due inside, (s.holding a b).movedOn_advancing advancing]
    rw [State.fireAt_none _ _ (by exact none_waits)]
    simp only [State.modPos, State.holding, PositionUnit.skipTrigger, PositionUnit.loadDivider]
    cases s.pos.skipped <;> rfl

/-- Settles O11, by induction on the schedule for the resync. -/
theorem backwardCountAndDeepRewind : Obligations.BackwardCountAndDeepRewind := by
  intro s a b edge
  rw [exec_encoderEdge_backward edge]
  refine ⟨fun near => ?_, fun deep => ?_⟩
  · rw [State.backwardCount_plain _ (by exact near)]
    rfl
  · rw [State.backwardCount_resync _ (by exact deep), State.loseOrders_eq]
    rfl

/-- Settles O12: by whether the flag was set. -/
theorem illegalTransitionSetsFaultOnce : Obligations.IllegalTransitionSetsFaultOnce := by
  refine fun s => ⟨?_, fun encA encB => ⟨⟨_, rfl, rfl⟩, ⟨_, rfl, ?_⟩⟩⟩
  · rw [exec_encoderEdge_illegal]
    cases fault : s.pos.encoderFault <;> simp [State.illegalTransition, State.holding, State.modPos, State.offer_eq, fault]
  · split <;> rfl

/-- Settles O2: the step is a tick. -/
theorem idleStepLetsOneMicrosecondPass : Obligations.IdleStepLetsOneMicrosecondPass := by
  intro s idle
  have passes : step s = .next s.tick := by simp only [step, idle]
  rw [passes]
  rfl

/-- Settles O13, by the law of a splice handed on. -/
theorem spliceEdgeCapturesAndHandsOn : Obligations.SpliceEdgeCapturesAndHandsOn := by
  refine fun s => ⟨fun rests => ?_, fun runs => ?_⟩
  · have silent : handsOn s.runState = false := by rcases rests with h | h <;> rw [h] <;> rfl
    change Host.Outcome.next _ = _
    simp only [State.offer_runState, State.modPos_runState, silent]
    rfl
  · intro arrival attaches room after overflow
    have hands : handsOn s.runState = true := by rcases runs with h | h <;> rw [h] <;> rfl
    change Host.Outcome.next _ = _
    simp only [State.offer_runState, State.modPos_runState, hands, if_true, State.handOnSplice_eq,
      State.offerArrival_both]
    simp only [State.modLanes_store, State.offer_eq, State.modPos_store, Store.adding_adding]
    rfl

/-- Settles O14: the body reads as the fields that are present, and the two refusals are their ranges and their offsets. -/
theorem setLineAppliesPresentFields : Obligations.SetLineAppliesPresentFields := by
  intro s p pr p1 p0 h1 h0 d3 d2 d1 d0 w1 w0 t3 t2 t1 t0 b3 b2 b1 b0 taken has body inRange offsets
  let b : SetLineBody :=
    { pitch := fieldValue (has 0) (be16 p1 p0), holdoff := fieldValue (has 1) (be16 h1 h0)
      spliceDistance := fieldValue (has 2) (be32 d3 d2 d1 d0), headWait := fieldValue (has 3) (be16 w1 w0)
      offsetTop := fieldValue (has 4) (be32 t3 t2 t1 t0), offsetBottom := fieldValue (has 5) (be32 b3 b2 b1 b0) }
  have answer := exec_setLine_read s p body b taken
    (readSetLine_fields pr p1 p0 h1 h0 d3 d2 d1 d0 w1 w0 t3 t2 t1 t0 b3 b2 b1 b0)
  have ranges : b.inRange = true ↔ inRange := by
    have holdoff := be16_lt h1 h0
    have wait := be16_lt w1 w0
    simp only [SetLineBody.inRange, b, Bool.and_eq_true, fieldIn_fieldValue, and_assoc]
    refine and_congr Iff.rfl ⟨fun ⟨_, dist, wait, top, bottom⟩ => ?_, fun ⟨dist, low, top, bottom⟩ => ?_⟩
    · exact ⟨fun on => (dist on).2, fun on => (wait on).1, fun on => (top on).2, fun on => (bottom on).2⟩
    · exact ⟨fun _ => ⟨Nat.zero_le _, by omega⟩, fun on => ⟨Nat.zero_le _, dist on⟩, fun on => ⟨low on, by omega⟩,
        fun on => ⟨Nat.zero_le _, top on⟩, fun on => ⟨Nat.zero_le _, bottom on⟩⟩
  have moves : (b.offsetTop.isSome || b.offsetBottom.isSome) = true ↔ offsets := by
    simp only [b, fieldValue_isSome, Bool.or_eq_true, offsets]
  refine ⟨fun bad => ?_, fun good off runs => ?_, fun good rests => ?_⟩
  · rw [answer, if_pos (Bool.eq_false_iff.mpr fun ok => bad (ranges.mp ok))]
  · rw [answer, if_neg (by simp [ranges.mpr good]), if_pos ⟨moves.mpr off, runs⟩]
  · rw [answer, if_neg (by simp [ranges.mpr good]), if_neg fun ⟨off, runs⟩ => runs (rests (moves.mp off))]
    simp only [PositionUnit.applyLine, Assembler.applyLine, b, fieldValue_getD, fieldValue_or]

/-- Settles O49: each query answers at once, and its body is the encoding of its block byte by byte. -/
theorem queriesReportState : Obligations.QueriesReportState := by
  intro s p i taken
  have head_taken : exec (.getHead p [i]) s = _ :=
    congrArg Host.Outcome.next (takeCommand_taken s p [i] readOneByte _ taken)
  have marker_taken : exec (.getMarker p [i]) s = _ :=
    congrArg Host.Outcome.next (takeCommand_taken s p [i] readOneByte _ taken)
  have status_taken : exec (.getStatus p []) s = _ :=
    congrArg Host.Outcome.next (takeCommand_taken s p [] readNothing _ taken)
  simp only [readOneByte] at head_taken marker_taken
  simp only [readNothing] at status_taken
  refine ⟨fun big => ?_, fun h index => ?_, fun k index => ?_, ?_⟩
  · rw [readIndex_ge big] at head_taken marker_taken
    exact ⟨head_taken.trans (congrArg _ (State.refuse_begun ..)),
      marker_taken.trans (congrArg _ (State.refuse_begun ..))⟩
  · subst index
    intro r g state answered
    simp only [readIndex_ofNat h (by decide), Head.bytes, Geometry.bytes, byteBool_eq, byteSide_eq, byteDirection_eq,
      byteHeadState_eq] at head_taken
    refine head_taken.trans (congrArg _ ?_)
    cases p <;> rfl
  · subst index
    intro m mine mode output
    simp only [readIndex_ofNat k (by decide)] at marker_taken
    refine marker_taken.trans (congrArg _ ?_)
    rw [State.respond_begun]
    refine congrArg (fun body => s.answered p 1 { code := .ok, body := body }) ?_
    change s.markerBytes k = _
    simp only [State.markerBytes, bytes_head_position]
    simp only [MarkerRecord.bytes, byteMarkerMode_eq, byteOutput_eq, byteBool_eq]
    rfl
  · intro run sideItems switch
    refine status_taken.trans (congrArg _ ?_)
    simp only [State.statusBytes, State.sideStatusBytes, bytes_teach, switchBytes_eq]
    simp only [byteBank_eq, byteRunState_eq, byteBool_eq]
    cases p <;> rfl
end

section
/-! SUPPORT. The power-on values block by block, and the statement about them, settled. -/

namespace Sys2Proof.Machine

/-! ### The values of power-on, block by block (R163) -/

theorem PositionUnit.atReset_hasResetValues (encA encB : Bool) :
    (PositionUnit.atReset encA encB).hasResetValues encA encB :=
  ⟨rfl, rfl, rfl, rfl, rfl, rfl, rfl, rfl, rfl, rfl, rfl, rfl, rfl, rfl, rfl, rfl, rfl⟩

theorem Head.atReset_hasResetValues (h : HeadId) : (Head.atReset h).hasResetValues h :=
  ⟨rfl, rfl, rfl, rfl, rfl, rfl, rfl, rfl, rfl, rfl, rfl, rfl, rfl, rfl, rfl, rfl⟩

theorem headsAtReset_get (h : HeadId) : headsAtReset[h] = Head.atReset h := by
  revert h
  decide

theorem Assembler.atReset_hasResetValues : Assembler.atReset.hasResetValues :=
  ⟨rfl, rfl, rfl, fun _ => Vector.getElem_replicate .., rfl⟩

theorem Engine.atReset_hasResetValues (cal : List (Nat × CalEntry)) (binWidth : Nat) :
    (Engine.atReset cal binWidth).hasResetValues :=
  ⟨rfl, rfl, rfl, rfl, rfl, rfl, rfl, rfl, rfl, rfl, fun _ => ⟨rfl, rfl, rfl⟩⟩

theorem LaneMap.atReset_hasResetValues (recipes : Recipes) (banks : PerSide Banks) :
    (LaneMap.atReset recipes banks).hasResetValues := ⟨rfl, rfl, rfl, rfl, rfl⟩

theorem Store.atReset_hasResetValues : Store.atReset.hasResetValues :=
  ⟨rfl, rfl, rfl, rfl, rfl, fun p => by cases p <;> rfl⟩

theorem Marker.atReset_hasResetValues (record : MarkerRecord) : (Marker.atReset record).hasResetValues :=
  ⟨rfl, rfl, rfl, rfl, rfl⟩

theorem PortState.atReset_hasResetValues : PortState.atReset.hasResetValues :=
  ⟨rfl, rfl, rfl, rfl, rfl, rfl, rfl, rfl⟩

theorem State.reset_head (h : HeadId) : State.reset.head h = Head.atReset h := headsAtReset_get h

theorem State.reset_asm (side : Side) : State.reset.asm.get side = Assembler.atReset := by cases side <;> rfl

theorem State.reset_eng (side : Side) : State.reset.eng.get side = Engine.atReset [] 8 := by cases side <;> rfl

theorem State.reset_marker (k : MarkerId) : State.reset.marker k = Marker.atReset MarkerRecord.powerOn :=
  Vector.getElem_replicate ..

theorem State.reset_port (p : Port) : State.reset.ports.get p = PortState.atReset := by cases p <;> rfl

theorem State.reset_hasResetValues : State.reset.hasResetValues false false := by
  refine ⟨PositionUnit.atReset_hasResetValues _ _, fun h => ?_, fun side => ?_, LaneMap.atReset_hasResetValues _ _,
    Store.atReset_hasResetValues, rfl, fun k => ?_, fun p => ?_⟩
  · rw [State.reset_head]
    exact Head.atReset_hasResetValues h
  · rw [State.reset_asm, State.reset_eng]
    exact ⟨Assembler.atReset_hasResetValues, Engine.atReset_hasResetValues _ _⟩
  · rw [State.reset_marker]
    exact Marker.atReset_hasResetValues _
  · rw [State.reset_port]
    exact PortState.atReset_hasResetValues

/-- R56: every lane of every bank holds its values of power-on. -/
theorem LaneBank.powerOn_get (i : LaneId) : LaneBank.powerOn[i] = LaneRecord.powerOn i.val := by
  revert i
  decide

theorem State.reset_hasPowerOnTables : State.reset.hasPowerOnTables := by
  refine ⟨fun i => ?_, fun side bank i => ?_, fun side column => ?_, fun side => ?_, fun k => ?_⟩
  · have recipe : State.reset.lanes.recipes[i] = Recipe.powerOn := Vector.getElem_replicate ..
    rw [recipe]
    exact ⟨rfl, rfl, rfl, rfl, rfl, rfl, rfl, rfl, rfl, rfl, rfl, rfl, rfl, rfl, rfl⟩
  · have same : (State.reset.lanes.banks.get side).get bank = LaneBank.powerOn := by cases side <;> cases bank <;> rfl
    rw [same, LaneBank.powerOn_get]
    exact ⟨rfl, rfl, rfl, rfl, rfl, rfl, rfl⟩
  · rw [State.reset_eng]
    exact ⟨rfl, rfl⟩
  · rw [State.reset_eng]
    rfl
  · rw [State.reset_marker]
    rfl

end Sys2Proof.Machine

open Sys2Proof Sys2Proof.Machine

/-- Settles O4, block by block. -/
theorem resetStateHoldsPowerOnValues : Obligations.ResetStateHoldsPowerOnValues := by
  refine ⟨rfl, State.reset_hasResetValues, State.reset_hasPowerOnTables, rfl, ?consecutive, fun p => ?counts,
    ⟨fun side => ?capacity, by decide⟩, fun side => ?rests, Nat.zero_le _, .nil,
    ⟨.nil, fun _ mem => absurd mem List.not_mem_nil⟩, fun side => ?engines,
    fun h => ?heads, fun p => ?ports, fun k => ?markers⟩
  case consecutive => exact ⟨by decide, rfl, fun i h => absurd h (Nat.not_lt_zero i)⟩
  case counts => cases p <;> exact ⟨by decide, rfl⟩
  case capacity => cases side <;> decide
  case rests =>
    rw [State.reset_asm, State.reset_eng]
    exact ⟨fun _ => rfl, fun _ => ⟨rfl, rfl, rfl, rfl, rfl, rfl, rfl⟩⟩
  case engines =>
    rw [State.reset_eng]
    exact ⟨⟨rfl, by simp [Engine.atReset]⟩, by simp [Engine.accumulatorsInRange, Engine.atReset],
      rfl, by simp [Engine.atReset]⟩
  case heads =>
    rw [State.reset_head]
    exact ⟨Iff.intro (fun _ => rfl) fun _ => rfl, by simp [Head.atReset], by simp [Head.atReset]⟩
  case ports =>
    rw [State.reset_port]
    simp [PortState.responseFits, PortState.atReset]
  case markers =>
    rw [State.reset_marker]
    simp [Marker.outputFits, Marker.atReset]
end

section
/-! SUPPORT. Laws of the updates of a head: what a change of a head and of its state makes of the part, and what
LINK_UP, LINK_DOWN, an accepted packet and SET_HEAD make of it. -/

namespace Sys2Proof.Machine

/-! ### A head that is changed and then moves to a state (R34) -/

theorem State.modHead_modHead (s : State) (h : HeadId) (f g : Head → Head) :
    (s.modHead h f).modHead h g = s.modHead h (g ∘ f) :=
  congrArg (fun v => { s with heads := v }) (vecModify_vecModify s.heads h f g)

theorem State.modHead_eq_self (s : State) (h : HeadId) (f : Head → Head) (same : f (s.head h) = s.head h) :
    s.modHead h f = s :=
  congrArg (fun v => { s with heads := v }) (vecModify_eq_self s.heads h f same)

@[simp] theorem State.head_modHead_same (s : State) (h : HeadId) (f : Head → Head) :
    (s.modHead h f).head h = f (s.head h) := by
  rw [State.head_modHead, if_pos rfl]

/-- R34: a head that stands in the state already is left as it is. -/
theorem State.setHeadState_same (s : State) (h : HeadId) {new : HeadState} (cause : HeadCause)
    (same : (s.head h).state = new) : s.setHeadState h new cause = s := if_pos same

/-- R34: the HEAD_STATE record of a head that moves from one state to another. -/
def State.headStateOffer (s : State) (h : HeadId) (side : Side) (former new : HeadState) (cause : HeadCause) : Offer :=
  plainOffer (.head h)
    { side := some side, lane := none, position := s.pos.web, content := .headState h former new cause } none

/-- R34: a head is changed and then moves to another state: the head after both, its record, and HEAD_CHANGE. -/
theorem State.setHeadState_modHead (s : State) (h : HeadId) (f : Head → Head) (new : HeadState) (cause : HeadCause)
    (change : (f (s.head h)).state ≠ new) :
    (s.modHead h f).setHeadState h new cause
      = { s with
          heads := s.heads.set h { f (s.head h) with state := new }
          ports := s.ports.all PortState.withHeadChange
          store := s.store.adding
            [s.headStateOffer h (f (s.head h)).geometry.side (f (s.head h)).state new cause] } := by
  have both : vecModify (s.modHead h f).heads h (fun r => { r with state := new })
      = s.heads.set h { f (s.head h) with state := new } := vecModify_vecModify s.heads h f _
  rw [State.setHeadState_eq _ _ _ _ (by rwa [State.head_modHead_same]), State.head_modHead_same, both]
  rfl

/-- R34: a move of a head changes its state alone. -/
theorem State.head_setHeadState_same (s : State) (h : HeadId) (new : HeadState) (cause : HeadCause) :
    (s.setHeadState h new cause).head h = { s.head h with state := new } := by
  by_cases same : (s.head h).state = new
  · rw [s.setHeadState_same h cause same, ← same]
  · rw [s.setHeadState_eq h new cause same]
    exact (s.head_modHead_same h fun r => { r with state := new })

/-! ### Link events (R19, R31) -/

/-- R31: a link that comes up at a head that is not ABSENT. -/
theorem execLinkUp_present {s : State} {h : HeadId} (down : (s.head h).linkUp = false)
    (there : (s.head h).state ≠ .absent) :
    execLinkUp h s = .next { s with heads := s.heads.set h { (s.head h) with linkUp := true } } := by
  simp only [execLinkUp, down, Bool.false_eq_true, if_false, State.head_modHead_same, there]
  rfl

/-- R31: a link that comes up at an ABSENT head. -/
theorem execLinkUp_absent {s : State} {h : HeadId} (down : (s.head h).linkUp = false)
    (gone : (s.head h).state = .absent) :
    execLinkUp h s
      = .next
          { s with
            heads := s.heads.set h { (s.head h) with linkUp := true, state := .live, misses := 0 }
            ports := s.ports.all PortState.withHeadChange
            store := s.store.adding
              [s.headStateOffer h (s.head h).geometry.side (s.head h).state .live .linkUp] } := by
  simp only [execLinkUp, down, Bool.false_eq_true, if_false, State.head_modHead_same, if_pos gone, State.setMisses,
    State.modHead_modHead]
  rw [State.setHeadState_modHead _ _ _ _ _ (by simp [gone])]
  rfl

/-- R31: a link that goes down at a head that is neither LIVE nor MUTE. -/
theorem execLinkDown_unseen {s : State} {h : HeadId} (up : (s.head h).linkUp = true)
    (unseen : ¬((s.head h).state = .live ∨ (s.head h).state = .mute)) :
    execLinkDown h s = .next { s with heads := s.heads.set h { (s.head h) with linkUp := false } } := by
  simp only [execLinkDown, up, if_true, State.head_modHead_same, if_neg unseen]
  rfl

/-- R31: a link that goes down at a LIVE or a MUTE head. -/
theorem execLinkDown_seen {s : State} {h : HeadId} (up : (s.head h).linkUp = true)
    (seen : (s.head h).state = .live ∨ (s.head h).state = .mute) :
    execLinkDown h s
      = .next
          { s with
            heads := s.heads.set h { (s.head h) with linkUp := false, state := .absent }
            ports := s.ports.all PortState.withHeadChange
            store := s.store.adding
              [s.headStateOffer h (s.head h).geometry.side (s.head h).state .absent .linkDown] } := by
  have moves : (s.head h).state ≠ .absent := by rcases seen with e | e <;> rw [e] <;> decide
  simp only [execLinkDown, up, if_true, State.head_modHead_same, if_pos seen]
  rw [State.setHeadState_modHead _ _ _ _ _ moves]

/-! ### An accepted packet (R24 to R26, R32) -/

/-- R35: the counters of a head after a packet that is accepted with this contribution. -/
def HeadCounters.afterAccepted (k : HeadCounters) (c : Contribution) : HeadCounters :=
  { k with accepted := k.accepted + 1, crc := if c.mark = .crc then k.crc + 1 else k.crc }

theorem State.count_count (s : State) (h : HeadId) (f g : HeadCounters → HeadCounters) :
    (s.count h f).count h g = s.count h (g ∘ f) := s.modHead_modHead h _ _

/-- R24 to R26, R32: an accepted packet counts, returns a MUTE head to LIVE, and contributes. -/
theorem State.accept_eq (s : State) (h : HeadId) (line : LineNo) (c : Contribution) :
    s.accept h line c
      = (if (s.head h).state = .mute then
            ((s.count h (·.afterAccepted c)).setMisses h 0).setHeadState h .live .packet
          else s.count h (·.afterAccepted c)).addContribution (s.head h).geometry.side line h c := by
  have counts : (if c.mark = .crc then
        (s.count h fun k => { k with accepted := k.accepted + 1 }).count h fun k => { k with crc := k.crc + 1 }
      else s.count h fun k => { k with accepted := k.accepted + 1 }) = s.count h (·.afterAccepted c) := by
    by_cases crc : c.mark = .crc
    · simp only [if_pos crc, State.count_count, HeadCounters.afterAccepted]
      rfl
    · simp only [if_neg crc, HeadCounters.afterAccepted]
  have state : ((s.count h (·.afterAccepted c)).head h).state = (s.head h).state := by
    rw [State.count, State.head_modHead_same]
  simp only [State.accept, counts, state]
  by_cases mute : (s.head h).state = .mute
  · have side : ((((s.count h (·.afterAccepted c)).setMisses h 0).setHeadState h .live .packet).head h).geometry.side
        = (s.head h).geometry.side := by
      rw [State.head_setHeadState_same, State.setMisses, State.head_modHead_same, State.count, State.head_modHead_same]
    simp only [if_pos mute, side]
  · have side : ((s.count h (·.afterAccepted c)).head h).geometry.side = (s.head h).geometry.side := by
      rw [State.count, State.head_modHead_same]
    simp only [if_neg mute, side]

/-! ### SET_HEAD (R29, R30) -/

/-- R30: the state of a head after a SET_HEAD that enables it, or does not. -/
def Head.enabledState (r : Head) (enabled : Bool) : HeadState :=
  if enabled then if r.state = .off then if r.linkUp then .live else .absent else r.state else .off

/-- R30: the miss count of a head after that SET_HEAD. -/
def Head.enabledMisses (r : Head) (enabled : Bool) : Nat :=
  if r.enabledState enabled = .off ∨ (r.state = .off ∧ r.enabledState enabled = .live) then 0 else r.misses

/-- R30: the change of head state at a SET_HEAD, as one change of the head and one move. -/
theorem State.applyEnable_eq (s : State) (h : HeadId) (enabled : Bool) :
    s.applyEnable h enabled
      = (s.setMisses h ((s.head h).enabledMisses enabled)).setHeadState h ((s.head h).enabledState enabled)
          .setHead := by
  have kept : s.setMisses h (s.head h).misses = s := s.modHead_eq_self h _ rfl
  cases enabled with
  | false => simp [State.applyEnable, Head.enabledMisses, Head.enabledState]
  | true =>
    by_cases off : (s.head h).state = .off
    · cases up : (s.head h).linkUp <;> simp [State.applyEnable, Head.enabledMisses, Head.enabledState, off, up, kept]
    · simp [State.applyEnable, Head.enabledMisses, Head.enabledState, off, kept, State.setHeadState_same]

/-- R29, R30: what a SET_HEAD that is taken makes of the head. -/
def Head.configured (r : Head) (g : Geometry) : Head :=
  { r with geometry := g, state := r.enabledState g.enabled, misses := r.enabledMisses g.enabled }

/-- R29, R30, R34: a SET_HEAD that is taken replaces the geometry and moves the head, with a record of a change. -/
theorem State.configureHead_eq (s : State) (h : HeadId) (g : Geometry) :
    (s.modHead h fun r => { r with geometry := g }).applyEnable h g.enabled
      = { s with
          heads := s.heads.set h ((s.head h).configured g)
          ports :=
            if (s.head h).state = (s.head h).enabledState g.enabled then s.ports
            else s.ports.all PortState.withHeadChange
          store :=
            if (s.head h).state = (s.head h).enabledState g.enabled then s.store
            else
              s.store.adding
                [s.headStateOffer h g.side (s.head h).state ((s.head h).enabledState g.enabled) .setHead] } := by
  rw [State.applyEnable_eq, State.setMisses, State.modHead_modHead]
  simp only [State.head_modHead_same]
  by_cases same : (s.head h).state = (s.head h).enabledState g.enabled
  · rw [State.setHeadState_same _ _ _ (by rw [State.head_modHead_same]; exact same), if_pos same, if_pos same]
    simp only [Head.configured, ← same]
    rfl
  · rw [State.setHeadState_modHead _ _ _ _ _ same, if_neg same, if_neg same]
    rfl

end Sys2Proof.Machine
end

section
/-! SUPPORT. The heads, ports and markers that stand in agreement with what they depend on, and what leaves them so. -/

namespace Sys2Proof.Machine

/-- Which heads, ports and markers stand in agreement (R30, R31, R142, R149, R155, R157). What a step keeps is an
inequality: `s.agreement ≤ t.agreement` says that whatever stands in agreement in s does so in t. -/
def State.agreement (s : State) : (HeadId → Prop) × (Port → Prop) × (MarkerId → Prop) :=
  (fun h => (s.head h).stateFits, fun p => (s.ports.get p).responseFits, fun k => (s.marker k).outputFits)

/-! ### What changes none of them -/

/-- R155: a change of a port that leaves its state and its response. -/
theorem State.agreement_modPort (s : State) (p : Port) (f : PortState → PortState)
    (phase : ∀ c, (f c).phase = c.phase) (held : ∀ c, (f c).held = c.held) :
    (s.modPort p f).agreement = s.agreement := by
  have kept : ∀ q, ((s.modPort p f).ports.get q).responseFits = (s.ports.get q).responseFits := fun q => by
    rw [State.modPort_ports, PerPort.get_set]
    split
    case isTrue same => rw [PortState.responseFits, phase, held, same, PortState.responseFits]
    case isFalse => rfl
  exact congrArg (fun ports => (s.agreement.1, ports, s.agreement.2.2)) (funext kept)

/-- R30, R31: a change of a head that leaves its geometry, its state and its link. -/
theorem State.agreement_modHead (s : State) (h : HeadId) (f : Head → Head)
    (kept : ∀ r, (f r).stateFits = r.stateFits) : (s.modHead h f).agreement = s.agreement := by
  have same : ∀ g, ((s.modHead h f).head g).stateFits = (s.head g).stateFits := fun g => by
    rw [State.head_modHead]
    split
    · exact kept _
    · rfl
  exact congrArg (fun heads => (heads, s.agreement.2)) (funext same)

section
variable (s : State)

@[simp] theorem State.agreement_modPos (f : PositionUnit → PositionUnit) : (s.modPos f).agreement = s.agreement := rfl
@[simp] theorem State.agreement_modAsm (side : Side) (f : Assembler → Assembler) :
    (s.modAsm side f).agreement = s.agreement := rfl
@[simp] theorem State.agreement_modEng (side : Side) (f : Engine → Engine) :
    (s.modEng side f).agreement = s.agreement := rfl
@[simp] theorem State.agreement_modLanes (f : LaneMap → LaneMap) : (s.modLanes f).agreement = s.agreement := rfl
@[simp] theorem State.agreement_modStore (f : Store → Store) : (s.modStore f).agreement = s.agreement := rfl
@[simp] theorem State.agreement_modReading (p : Port) (f : Reading → Reading) :
    (s.modReading p f).agreement = s.agreement := rfl
@[simp] theorem State.agreement_setOrders (orders : List Order) : (s.setOrders orders).agreement = s.agreement := rfl
@[simp] theorem State.agreement_offer (w : Writer) (d : Draft) (flag : Option Bool) :
    (s.offer w d flag).agreement = s.agreement := rfl
@[simp] theorem State.agreement_offerAll (w : Writer) (made : List Made) :
    (s.offerAll w made).agreement = s.agreement := by
  rw [State.offerAll_eq]
  rfl
@[simp] theorem State.agreement_inStep (step : EventStep) (f : State → State) :
    (s.inStep step f).agreement = (f s).agreement := rfl

theorem State.agreement_ite {s a b : State} {c : Prop} [Decidable c] (yes : a.agreement = s.agreement)
    (no : b.agreement = s.agreement) : (if c then a else b).agreement = s.agreement := by
  split
  · exact yes
  · exact no

/-- What every item of a list leaves in agreement, the list does. -/
theorem State.agreement_foldl {α : Type} (f : State → α → State) (kept : ∀ s x, s.agreement ≤ (f s x).agreement)
    (l : List α) : s.agreement ≤ (l.foldl f s).agreement := by
  induction l generalizing s with
  | nil => exact le_rfl
  | cons x rest ih => exact (kept s x).trans (ih (f s x))

theorem State.agreement_foldl_eq {α : Type} (f : State → α → State) (kept : ∀ s x, (f s x).agreement = s.agreement)
    (l : List α) : (l.foldl f s).agreement = s.agreement := by
  induction l generalizing s with
  | nil => rfl
  | cons x rest ih => rw [List.foldl_cons, ih, kept]

theorem State.agreement_atEachPort (f : State → Port → State) (kept : ∀ s p, (f s p).agreement = s.agreement) :
    (s.atEachPort f).agreement = s.agreement := by
  simp only [State.atEachPort, kept]

/-! ### Ports and notices -/

@[simp] theorem State.agreement_raiseRunChange : s.raiseRunChange.agreement = s.agreement :=
  s.agreement_atEachPort _ fun _ _ => State.agreement_modPort _ _ _ (fun _ => rfl) fun _ => rfl
@[simp] theorem State.agreement_raiseMarkTrouble : s.raiseMarkTrouble.agreement = s.agreement :=
  s.agreement_atEachPort _ fun _ _ => State.agreement_modPort _ _ _ (fun _ => rfl) fun _ => rfl
@[simp] theorem State.agreement_raiseStoreGap (p : Port) : (s.raiseStoreGap p).agreement = s.agreement :=
  s.agreement_modPort _ _ (fun _ => rfl) fun _ => rfl
@[simp] theorem State.agreement_portFault (p : Port) (cause : FaultCause) :
    (s.portFault p cause).agreement = s.agreement :=
  s.agreement_modPort _ _ (fun c => by unfold PortState.fault; split <;> rfl)
    fun c => by unfold PortState.fault; split <;> rfl
@[simp] theorem State.agreement_noteTransfer (p : Port) : (s.noteTransfer p).agreement = s.agreement :=
  State.agreement_modPort _ _ _ (fun _ => rfl) fun _ => rfl
@[simp] theorem State.agreement_shiftOut (p : Port) (bytes : List Byte) :
    (s.shiftOut p bytes).agreement = s.agreement := s.agreement_modPort _ _ (fun _ => rfl) fun _ => rfl
@[simp] theorem State.agreement_shiftFiller (p : Port) (n : Nat) : (s.shiftFiller p n).agreement = s.agreement :=
  s.agreement_shiftOut p _
@[simp] theorem State.agreement_shiftResponse (p : Port) (frame : List Byte) (n : Nat) :
    (s.shiftResponse p frame n).agreement = s.agreement := State.agreement_shiftOut _ p _
@[simp] theorem State.agreement_markTroubleRecord (side : Option Side) (lane : Option LaneId) (position : Position)
    (content : Content) : (s.markTroubleRecord side lane position content).agreement = s.agreement := by
  rw [State.markTroubleRecord, State.agreement_offer, State.agreement_raiseMarkTrouble]
@[simp] theorem State.agreement_changeRunState (new : RunState) (port : Option Port) :
    (s.changeRunState new port).agreement = s.agreement := by
  rw [State.changeRunState, State.agreement_raiseRunChange]
  rfl

/-! ### Assemblers -/

@[simp] theorem State.agreement_closeDropRun (side : Side) : (s.closeDropRun side).agreement = s.agreement := by
  rw [State.closeDropRun_eq]
  rfl
@[simp] theorem State.agreement_closeBlindRun (side : Side) (h : HeadId) :
    (s.closeBlindRun side h).agreement = s.agreement := by
  rw [State.closeBlindRun_eq]
  rfl
@[simp] theorem State.agreement_closeSkipped : s.closeSkipped.agreement = s.agreement := by
  unfold State.closeSkipped
  split <;> rfl

/-! ### The lane map unit and the engines -/

@[simp] theorem State.agreement_changeOverAtTake (side : Side) (position : Position) (w : SwitchRecord) :
    (s.changeOverAtTake side position w).agreement = s.agreement := rfl
@[simp] theorem State.agreement_changeOverAtOnce (side : Side) (w : SwitchRecord) :
    (s.changeOverAtOnce side w).agreement = s.agreement := by
  simp only [State.changeOverAtOnce, State.agreement_offerAll]
  rfl
@[simp] theorem State.agreement_changeOverIf (side : Side) (now : Bool) :
    (s.changeOverIf side now).agreement = s.agreement := by
  unfold State.changeOverIf
  split
  · exact State.agreement_ite (s.agreement_changeOverAtOnce ..) rfl
  · rfl
@[simp] theorem State.agreement_completeSwitch : s.completeSwitch.agreement = s.agreement := by
  unfold State.completeSwitch
  split
  · exact State.agreement_ite rfl rfl
  · rfl
@[simp] theorem State.agreement_changeOverHeadless : s.changeOverHeadless.agreement = s.agreement := by
  simp only [State.changeOverHeadless, State.agreement_completeSwitch, State.agreement_changeOverIf]
@[simp] theorem State.agreement_requestSwitch (w : SwitchRecord) : (s.requestSwitch w).agreement = s.agreement :=
  State.agreement_ite (by simp) (by simp)
@[simp] theorem State.agreement_handOnSplice (capture arrival : Position) :
    (s.handOnSplice capture arrival).agreement = s.agreement := by
  rw [State.handOnSplice_eq]
  simp only [State.offerArrival_eq]
  rfl
@[simp] theorem State.agreement_abortTeachAtSplice (side : Side) (position : Position) :
    (s.abortTeachAtSplice side position).agreement = s.agreement := by
  unfold State.abortTeachAtSplice
  split <;> rfl
@[simp] theorem State.agreement_serveArrival (side : Side) (position : Position) (x : ArrivalEntry)
    (rest : List ArrivalEntry) : (s.serveArrival side position x rest).agreement = s.agreement := by
  simp only [State.serveArrival, State.agreement_abortTeachAtSplice]
  split <;> rfl
@[simp] theorem State.agreement_serveArrivals (side : Side) (position : Position) (l : List ArrivalEntry) :
    (State.serveArrivals side position l s).agreement = s.agreement := by
  induction l generalizing s with
  | nil => rfl
  | cons x rest ih =>
    rw [State.serveArrivals]
    split
    · rw [ih, State.agreement_serveArrival]
    · rfl
@[simp] theorem State.agreement_stageChangeover (side : Side) (position : Position) :
    (s.stageChangeover side position).agreement = s.agreement := by
  simp only [State.stageChangeover, State.agreement_completeSwitch]
  split
  · exact State.agreement_ite (by simp) (by simp)
  · simp
@[simp] theorem State.agreement_runOperation (side : Side) (line : LineEntry) :
    (s.runOperation side line).agreement = s.agreement := by
  simp only [State.runOperation, State.agreement_modEng, State.agreement_stageChangeover]

/-! ### The record store and the schedule -/

@[simp] theorem State.agreement_setPending (p : Port) (n : Nat) : (s.setPending p n).agreement = s.agreement :=
  State.agreement_modPort _ _ _ (fun _ => rfl) fun _ => rfl
@[simp] theorem State.agreement_evictFrom (x : Record) (p : Port) : (s.evictFrom x p).agreement = s.agreement := by
  simp only [State.evictFrom]
  split_ifs <;> simp
@[simp] theorem State.agreement_evictIfFull : s.evictIfFull.agreement = s.agreement := by
  unfold State.evictIfFull
  split
  · rfl
  · split
    · rfl
    · exact State.agreement_atEachPort _ _ fun s p => s.agreement_evictFrom _ p
@[simp] theorem State.agreement_countAppended (x : Record) (p : Port) :
    (s.countAppended x p).agreement = s.agreement := State.agreement_ite (s.agreement_setPending ..) rfl
@[simp] theorem State.agreement_takeFront (w : Writer) : (s.takeFront w).agreement = s.agreement := by
  unfold State.takeFront
  split
  · rfl
  · split <;> rfl
@[simp] theorem State.agreement_place (c : Candidate) : (s.place c).1.agreement = s.agreement := by
  simp only [State.place]
  split_ifs <;> simp
@[simp] theorem State.agreement_considerRecord (r : Record) (flag : Option Bool) :
    (s.considerRecord r flag).agreement = s.agreement := by
  unfold State.considerRecord
  split
  · exact s.agreement_place _
  · rfl
@[simp] theorem State.agreement_append (o : Offer) : (s.append o).agreement = s.agreement := by
  simp only [State.append, State.agreement_considerRecord]
  rw [State.agreement_atEachPort _ _ fun s p => s.agreement_countAppended _ p, State.agreement_modStore,
    State.agreement_evictIfFull]
@[simp] theorem State.agreement_arbitrate : s.arbitrate.agreement = s.agreement := by
  unfold State.arbitrate
  split
  · rfl
  · split
    · rfl
    · simp
@[simp] theorem State.agreement_setFilter (p : Port) (b : SetFilterBody) :
    (s.setFilter p b).agreement = s.agreement := by
  simp only [State.setFilter]
  split
  · refine (State.agreement_modPort _ p _ ?_ ?_).trans (State.agreement_setPending ..) <;> exact fun _ => rfl
  · exact State.agreement_setPending ..
@[simp] theorem State.agreement_resetPort (p : Port) : (s.resetPort p).agreement = s.agreement :=
  State.agreement_modPort _ _ _ (fun _ => rfl) fun _ => rfl
@[simp] theorem State.agreement_loseOrders : s.loseOrders.agreement = s.agreement :=
  State.agreement_foldl_eq _ _ (fun s _ => s.agreement_markTroubleRecord ..) _

/-! ### The end of drain -/

@[simp] theorem State.agreement_closeCoverage (side : Side) : (s.closeCoverage side).agreement = s.agreement :=
  (State.agreement_foldl_eq _ _ (fun s h => s.agreement_closeBlindRun side h) _).trans (s.agreement_closeDropRun side)
@[simp] theorem State.agreement_stopTeach (side : Side) : (s.stopTeach side).agreement = s.agreement := by
  unfold State.stopTeach
  split
  · rfl
  · rw [State.agreement_offerAll, State.agreement_modEng]
@[simp] theorem State.agreement_closingSteps : s.closingSteps.agreement = s.agreement := by
  simp [State.closingSteps, State.bothSides, State.truncateBlobs, State.stopStreaks, State.dropCandidates,
    State.clearBins]
@[simp] theorem State.agreement_endDrain : s.endDrain.agreement = s.agreement := by
  rw [State.endDrain, State.agreement_inStep, State.agreement_changeRunState, State.agreement_closingSteps]

end

end Sys2Proof.Machine
end

section
/-! SUPPORT. The commands and the work of the part keep in agreement what stands so. -/

namespace Sys2Proof.Machine

/-! ### One head, one port, one marker -/

/-- Only one head changes: what it has to keep. -/
theorem State.agreement_le_of_heads {s t : State} (h : HeadId) (r : Head) (heads : t.heads = s.heads.set h r)
    (keeps : (s.head h).stateFits → r.stateFits) (phase : ∀ p, (t.ports.get p).phase = (s.ports.get p).phase)
    (held : ∀ p, (t.ports.get p).held = (s.ports.get p).held) (marks : t.marks.markers = s.marks.markers) :
    s.agreement ≤ t.agreement := by
  refine ⟨fun g fits => ?_, fun p fits => ?_, fun k fits => ?_⟩
  · have head : t.head g = if g = h then r else s.head g := by
      rw [State.head, heads]
      exact vecModify_get s.heads h g fun _ => r
    change (t.head g).stateFits
    rw [head]
    split
    case isTrue same => exact keeps (same ▸ fits)
    case isFalse => exact fits
  · change (t.ports.get p).responseFits
    rw [PortState.responseFits, phase, held]
    exact fits
  · change (t.marker k).outputFits
    rw [State.marker, marks]
    exact fits

/-- A port that changes into one that holds a response exactly in RESPONSE_HELD. -/
theorem State.agreement_le_modPort (s : State) (p : Port) (f : PortState → PortState)
    (keeps : (s.ports.get p).responseFits → (f (s.ports.get p)).responseFits) :
    s.agreement ≤ (s.modPort p f).agreement := by
  refine ⟨fun _ fits => fits, fun q fits => ?_, fun _ fits => fits⟩
  change ((s.modPort p f).ports.get q).responseFits
  rw [State.modPort_ports, PerPort.get_set]
  split
  case isTrue same => exact keeps (same ▸ fits)
  case isFalse => exact fits

theorem State.agreement_le_modMarker (s : State) (k : MarkerId) (f : Marker → Marker)
    (keeps : (s.marker k).outputFits → (f (s.marker k)).outputFits) :
    s.agreement ≤ (s.modMarker k f).agreement := by
  refine ⟨fun _ fits => fits, fun _ fits => fits, fun j fits => ?_⟩
  change ((s.modMarker k f).marker j).outputFits
  rw [State.marker_modMarker]
  split
  case isTrue same => exact same ▸ keeps (same ▸ fits)
  case isFalse => exact fits

/-! ### The command cycle (R155, R157) -/

section
variable (s : State)

theorem State.agreement_beginCommand (p : Port) : s.agreement ≤ (s.beginCommand p).agreement :=
  s.agreement_le_modPort _ _ fun _ => by simp [PortState.responseFits]

theorem State.agreement_respond (p : Port) (r : Response) : s.agreement ≤ (s.respond p r).agreement :=
  s.agreement_le_modPort _ _ fun _ => by simp [PortState.responseFits]

theorem State.agreement_refuse (p : Port) (code : ResponseCode) : s.agreement ≤ (s.refuse p code).agreement :=
  s.agreement_respond p _

theorem State.agreement_answerOk (p : Port) : s.agreement ≤ (s.answerOk p).agreement := s.agreement_respond p _

/-- A response behind work that keeps what stands in agreement. -/
theorem State.agreement_respond_of_le {s t : State} (p : Port) (r : Response) (work : s.agreement ≤ t.agreement) :
    s.agreement ≤ (t.respond p r).agreement := work.trans (t.agreement_respond p r)

/-- A response behind work that leaves what stands in agreement. -/
theorem State.agreement_respond_of_eq {s t : State} (p : Port) (r : Response) (work : t.agreement = s.agreement) :
    s.agreement ≤ (t.respond p r).agreement := State.agreement_respond_of_le p r work.ge

/-- R155: a command frame keeps what the block that acts on it keeps. -/
theorem takeFrame_agreement (p : Port) (len : Nat) (act : State → State)
    (acts : ∀ u : State, u.agreement ≤ (act u).agreement) : s.agreement ≤ (takeFrame p len act s).agreement := by
  simp only [takeFrame]
  split_ifs
  · exact (s.agreement_shiftFiller p _).ge
  · simp
  · have taken := (s.shiftFiller p (2 + len)).agreement_beginCommand p
    rw [State.agreement_shiftFiller] at taken
    exact taken.trans (acts _)

theorem takeCommand_agreement {β : Type} (p : Port) (body : List Byte) (read : List Byte → Option β)
    (act : β → State → State) (acts : ∀ b (u : State), u.agreement ≤ (act b u).agreement) :
    s.agreement ≤ (takeCommand p body read act s).agreement := by
  refine takeFrame_agreement s p _ _ fun u => ?_
  split
  · exact u.agreement_refuse p _
  · exact acts _ u

theorem State.agreement_fetch (p : Port) (n : Nat) : s.agreement ≤ (s.fetch p n).agreement := by
  unfold State.fetch
  split
  · exact (s.agreement_shiftResponse p _ n).ge
  · split
    · refine (s.agreement_shiftResponse p _ n).ge.trans (State.agreement_le_modPort _ _ _ fun fits => ?_)
      unfold PortState.fetched
      split
      · simp [PortState.responseFits]
      · exact fits
    · exact (s.agreement_shiftResponse p _ n).ge

theorem State.agreement_readRecords (p : Port) (maximum : Nat) : s.agreement ≤ (s.readRecords p maximum).agreement :=
  State.agreement_respond_of_eq p _ (State.agreement_modPort _ _ _ (fun _ => rfl) fun _ => rfl)

/-! ### Head states (R30 to R34) -/

/-- R34: a move of a head to a state that its geometry and link allow. -/
theorem State.agreement_setHeadState (h : HeadId) (new : HeadState) (cause : HeadCause)
    (keeps : (s.head h).stateFits → { s.head h with state := new }.stateFits) :
    s.agreement ≤ (s.setHeadState h new cause).agreement := by
  by_cases same : (s.head h).state = new
  · rw [s.setHeadState_same h cause same]
  · have moved := s.setHeadState_modHead h id new cause same
    rw [s.modHead_eq_self h id rfl] at moved
    rw [moved]
    exact State.agreement_le_of_heads h _ rfl keeps (fun p => by cases p <;> rfl) (fun p => by cases p <;> rfl) rfl

@[simp] theorem State.agreement_setMisses (h : HeadId) (n : Nat) : (s.setMisses h n).agreement = s.agreement :=
  s.agreement_modHead h _ fun _ => rfl

@[simp] theorem State.agreement_count (h : HeadId) (f : HeadCounters → HeadCounters) :
    (s.count h f).agreement = s.agreement := s.agreement_modHead h _ fun _ => rfl

/-- R32: a head that is MUTE may return to LIVE. -/
theorem Head.stateFits_live {r : Head} (mute : r.state = .mute) (fits : r.stateFits) :
    { r with state := .live }.stateFits := by
  obtain ⟨off, -, linked⟩ := fits
  exact ⟨⟨nofun, fun disabled => absurd (off.mpr disabled) (by simp [mute])⟩, nofun, fun _ => linked (.inr mute)⟩

/-- R32, R33: a MUTE head returns to LIVE, with its miss count 0. -/
theorem State.agreement_returnLive (h : HeadId) (cause : HeadCause) (mute : (s.head h).state = .mute) :
    s.agreement ≤ ((s.setMisses h 0).setHeadState h .live cause).agreement := by
  refine (s.agreement_setMisses h 0).ge.trans (State.agreement_setHeadState _ h _ cause ?_)
  rw [State.setMisses, State.head_modHead_same]
  exact Head.stateFits_live mute

/-- R32, R44: the closure of a line mutes a LIVE head at most. -/
theorem headAfterClosure_stateFits (slot : Slot) (h : HeadId) {r : Head} (fits : r.stateFits) :
    (headAfterClosure slot h r).stateFits := by
  unfold headAfterClosure
  by_cases gave : slot.contributions[h].isSome
  · rwa [if_pos gave]
  rw [if_neg gave]
  by_cases expected : h ∈ slot.expected
  · rw [if_pos expected]
    obtain ⟨off, absent, linked⟩ := fits
    by_cases mutes : r.state = .live ∧ 3 ≤ min 255 (r.misses + 1)
    · rw [if_pos mutes]
      obtain ⟨live, -⟩ := mutes
      exact ⟨⟨nofun, fun disabled => absurd (off.mpr disabled) (by simp [live])⟩, nofun, fun _ => linked (.inl live)⟩
    · rw [if_neg mutes]
      exact ⟨off, absent, linked⟩
  · rwa [if_neg expected]

theorem State.agreement_closeOldest (side : Side) : s.agreement ≤ (s.closeOldest side).agreement := by
  cases slots : (s.asm.get side).slots with
  | nil =>
    have same : s.closeOldest side = s := by simp [State.closeOldest, slots]
    rw [same]
  | cons slot rest =>
    have closed := s.closeOldest_lineClosed side slot rest slots
    have frame := closed.frame
    obtain ⟨-, -, -, heads, -⟩ := closed
    refine ⟨fun h fits => ?_, fun p fits => ?_, fun k fits => ?_⟩
    · change ((s.closeOldest side).head h).stateFits
      rw [heads]
      split
      · exact headAfterClosure_stateFits slot h fits
      · exact fits
    · change ((s.closeOldest side).ports.get p).responseFits
      rw [PortState.responseFits, frame.phase, frame.held]
      exact fits
    · change ((s.closeOldest side).marker k).outputFits
      rw [State.marker, frame.marks]
      exact fits

theorem State.agreement_closeReady (side : Side) : s.agreement ≤ (s.closeReady side).agreement :=
  State.cascade_induction side (fun s t => s.agreement ≤ t.agreement) (fun _ => le_rfl) (fun _ _ _ => le_trans)
    (fun s => s.agreement_closeOldest side) _ s

theorem State.agreement_openSlot (side : Side) (line : LineNo) (trigger : Position) :
    s.agreement ≤ (s.openSlot side line trigger).agreement := by
  cases on : s.hasHead side with
  | false => rw [s.openSlot_headless side line trigger on]
  | true =>
    rw [s.openSlot_eq side line trigger on, State.agreement_modAsm, State.roomMade]
    split
    · exact le_rfl
    · exact (s.agreement_closeOldest side).trans (State.agreement_closeReady _ side)

theorem State.agreement_openSlots (line : LineNo) (trigger : Position) :
    s.agreement ≤ (s.openSlots line trigger).agreement :=
  (s.agreement_openSlot .top line trigger).trans (State.agreement_openSlot _ .bottom line trigger)

theorem State.agreement_addContribution (side : Side) (line : LineNo) (h : HeadId) (c : Contribution) :
    s.agreement ≤ (s.addContribution side line h c).agreement := State.agreement_closeReady (s.modAsm side _) side

theorem State.agreement_waitExpiry (side : Side) (line : LineNo) :
    s.agreement ≤ (s.waitExpiry side line).agreement := by
  unfold State.waitExpiry
  split
  · exact le_rfl
  · split
    · exact le_rfl
    · exact State.agreement_closeReady ((s.reachTime _).modAsm side _) side

theorem State.agreement_accept (h : HeadId) (line : LineNo) (c : Contribution) :
    s.agreement ≤ (s.accept h line c).agreement := by
  rw [State.accept_eq]
  refine le_trans ?_ (State.agreement_addContribution ..)
  rw [← s.agreement_count h (·.afterAccepted c)]
  split
  case isTrue mute =>
    refine State.agreement_returnLive _ h _ ?_
    rwa [State.count, State.head_modHead_same]
  case isFalse => exact le_rfl

theorem State.agreement_takeHeader (h : HeadId) (hd : PacketHeader) (f : Nat → Contribution) :
    s.agreement ≤ (s.takeHeader h hd f).agreement := by
  unfold State.takeHeader
  split
  · exact (s.agreement_count ..).ge
  · split
    · exact s.agreement_accept ..
    all_goals exact (s.agreement_count ..).ge

theorem State.agreement_takePacket (h : HeadId) (bytes : List Byte) (f : Nat → List Byte → Contribution) :
    s.agreement ≤ (s.takePacket h bytes f).agreement := by
  unfold State.takePacket
  split
  · split
    · split
      · exact s.agreement_takeHeader ..
      · exact (s.agreement_count ..).ge.trans (State.agreement_takeHeader ..)
      · exact (s.agreement_count ..).ge
    · exact le_rfl
  · exact le_rfl

/-- R31: a link that comes up. -/
theorem execLinkUp_agreement (h : HeadId) : ∃ t, execLinkUp h s = .next t ∧ s.agreement ≤ t.agreement := by
  cases up : (s.head h).linkUp with
  | true => exact ⟨s, by simp [execLinkUp, up], le_rfl⟩
  | false =>
    by_cases gone : (s.head h).state = .absent
    · refine ⟨_, execLinkUp_absent up gone, State.agreement_le_of_heads h _ rfl ?_ (fun p => by cases p <;> rfl)
        (fun p => by cases p <;> rfl) rfl⟩
      rintro ⟨off, -, -⟩
      exact ⟨⟨nofun, fun disabled => absurd (off.mpr disabled) (by simp [gone])⟩, nofun, fun _ => rfl⟩
    · refine ⟨_, execLinkUp_present up gone, State.agreement_le_of_heads h _ rfl ?_ (fun _ => rfl) (fun _ => rfl) rfl⟩
      rintro ⟨off, -, -⟩
      exact ⟨off, fun absent => absurd absent gone, fun _ => rfl⟩

/-- R31: a link that goes down. -/
theorem execLinkDown_agreement (h : HeadId) : ∃ t, execLinkDown h s = .next t ∧ s.agreement ≤ t.agreement := by
  cases up : (s.head h).linkUp with
  | false => exact ⟨s, by simp [execLinkDown, up], le_rfl⟩
  | true =>
    by_cases seen : (s.head h).state = .live ∨ (s.head h).state = .mute
    · refine ⟨_, execLinkDown_seen up seen, State.agreement_le_of_heads h _ rfl ?_ (fun p => by cases p <;> rfl)
        (fun p => by cases p <;> rfl) rfl⟩
      rintro ⟨off, -, -⟩
      refine ⟨⟨nofun, fun disabled => ?_⟩, fun _ => rfl, by simp⟩
      have := off.mpr disabled
      simp [this] at seen
    · refine ⟨_, execLinkDown_unseen up seen, State.agreement_le_of_heads h _ rfl ?_ (fun _ => rfl) (fun _ => rfl) rfl⟩
      rintro ⟨off, -, -⟩
      exact ⟨off, fun _ => rfl, fun live => absurd live seen⟩

/-- R30: a SET_HEAD that is taken leaves a head in agreement with its new geometry. -/
theorem Head.configured_stateFits {r : Head} (g : Geometry) (fits : r.stateFits) : (r.configured g).stateFits := by
  obtain ⟨-, absent, linked⟩ := fits
  cases on : g.enabled with
  | false => simp [Head.configured, Head.enabledState, Head.stateFits, on]
  | true =>
    by_cases off : r.state = .off
    · cases up : r.linkUp <;> simp [Head.configured, Head.enabledState, Head.stateFits, on, off, up]
    · simpa [Head.configured, Head.enabledState, Head.stateFits, on, off] using ⟨absent, linked⟩

theorem State.agreement_setHead (p : Port) (h : HeadId) (b : SetHeadBody) :
    s.agreement ≤ (s.setHead p h b).agreement := by
  unfold State.setHead
  split
  · exact s.agreement_refuse p _
  · split
    · exact s.agreement_refuse p _
    · split_ifs
      · exact s.agreement_refuse p _
      · exact s.agreement_refuse p _
      · rw [State.configureHead_eq]
        refine State.agreement_respond_of_le p _ (State.agreement_le_of_heads h _ rfl (Head.configured_stateFits _)
          (fun q => ?_) (fun q => ?_) rfl)
        all_goals
          dsimp only
          split
          · rfl
          · cases q <;> rfl

/-! ### The engines -/

theorem State.agreement_takeSetCal (p : Port) (side : Side) (b : SetCalBody) :
    s.agreement ≤ (s.takeSetCal p side b).agreement := by
  unfold State.takeSetCal
  split_ifs
  · exact s.agreement_refuse p _
  · exact s.agreement_refuse p _
  · exact State.agreement_respond_of_eq p _ rfl

theorem State.agreement_takeTeach (p : Port) (side : Side) (b : TeachBody) :
    s.agreement ≤ (s.takeTeach p side b).agreement := by
  unfold State.takeTeach
  split_ifs
  · exact s.agreement_refuse p _
  · exact s.agreement_refuse p _
  · exact s.agreement_refuse p _
  · exact State.agreement_respond_of_eq p _ rfl

theorem State.agreement_takeTeachAbort (p : Port) (side : Side) :
    s.agreement ≤ (s.takeTeachAbort p side).agreement := by
  unfold State.takeTeachAbort
  split
  · exact s.agreement_refuse p _
  · exact State.agreement_respond_of_eq p _ (State.agreement_offerAll ..)

theorem State.agreement_takeEngineCommand (p : Port) (side : Side) (c : EngineCommand) (body : List Byte) :
    s.agreement ≤ (s.takeEngineCommand p side c body).agreement := by
  cases c with
  | setCal =>
    simp only [State.takeEngineCommand]
    split
    · exact s.agreement_takeSetCal ..
    · exact s.agreement_refuse p _
  | teach =>
    simp only [State.takeEngineCommand]
    split
    · exact s.agreement_takeTeach ..
    · exact s.agreement_refuse p _
  | teachAbort => exact s.agreement_takeTeachAbort p side

theorem State.agreement_reachEngine (p : Port) (side : Side) (c : EngineCommand) (body : List Byte) :
    s.agreement ≤ (s.reachEngine p side c body).agreement := by
  unfold State.reachEngine
  split
  · exact le_rfl
  · exact s.agreement_takeEngineCommand ..

/-- R74: a held command is answered at its port. -/
theorem State.agreement_takeHeld (side : Side) (c : HeldCommand) : s.agreement ≤ (s.takeHeld side c).agreement :=
  (s.agreement_noteTransfer c.port).ge.trans (State.agreement_takeEngineCommand ..)

theorem State.agreement_releaseLine (side : Side) : s.agreement ≤ (s.releaseLine side).agreement :=
  State.agreement_foldl (s.modEng side _) _ (fun s c => s.agreement_takeHeld side c) _

/-! ### Markers (R142, R149, R150) -/

/-- R149: a NORMAL firing makes an output that is not FORCED pulse. -/
theorem Marker.fired_outputFits {m : Marker} (now : Nat) (o : Order) (fits : m.outputFits) :
    ((m.pulse now).openWindow now o).outputFits := by
  have same : ∀ m : Marker, (m.openWindow now o).outputFits = m.outputFits := fun m => by
    unfold Marker.openWindow
    split <;> rfl
  rw [same]
  unfold Marker.pulse
  split
  · exact fits
  · exact ⟨⟨fun _ => rfl, fun _ => rfl⟩, nofun⟩

/-- R150: a FORCE firing forces an idle output. -/
theorem Marker.forced_outputFits {m : Marker} (mode : m.record.mode = .force) (fits : m.outputFits) :
    (if m.output = .idle then { m with output := .forced } else m).outputFits := by
  split
  case isTrue idle =>
    obtain ⟨pulsing, -⟩ := fits
    exact ⟨⟨nofun, fun ends => absurd (pulsing.mpr ends) (by simp [idle])⟩, fun _ => mode⟩
  case isFalse => exact fits

/-- R142: the change of a marker's mode brings its output with it. -/
theorem Marker.setRecord_outputFits {m : Marker} (r : MarkerRecord) (fits : m.outputFits) :
    (m.setRecord r).outputFits := by
  obtain ⟨pulsing, forced⟩ := fits
  unfold Marker.setRecord Marker.changeMode
  split_ifs with same force former
  · exact ⟨pulsing, fun f => same ▸ forced f⟩
  · exact ⟨⟨nofun, nofun⟩, fun _ => force⟩
  · exact ⟨⟨nofun, nofun⟩, nofun⟩
  · exact ⟨pulsing, fun f => absurd (forced f) former⟩

theorem State.agreement_fire (o : Order) : s.agreement ≤ (s.fire o).agreement := by
  simp only [State.fire, State.firingRecord]
  cases mode : (s.marker o.marker).record.mode with
  | normal => exact s.agreement_le_modMarker _ _ (Marker.fired_outputFits s.now o)
  | inhibit => exact le_rfl
  | force => exact s.agreement_le_modMarker _ _ (Marker.forced_outputFits mode)

theorem State.agreement_fireAt (web : Position) : s.agreement ≤ (s.fireAt web).agreement :=
  State.agreement_foldl (s.setOrders (s.marks.orders.filter (·.firePos ≠ web))) _ State.agreement_fire _

/-! ### The position unit -/

theorem State.agreement_divide : s.agreement ≤ s.divide.agreement := by
  simp only [State.divide]
  split_ifs
  · refine le_trans (le_of_eq ?_) (State.agreement_openSlots ..)
    simp
  · exact le_rfl
  · exact le_rfl

theorem State.agreement_forwardCount : s.agreement ≤ s.forwardCount.agreement := by
  simp only [State.forwardCount]
  refine le_trans ?_ (State.agreement_fireAt ..)
  split_ifs
  · exact State.agreement_divide ((s.modPos _).modPos _)
  · exact le_rfl
  · exact le_rfl

theorem State.agreement_backwardCount : s.backwardCount.agreement = s.agreement :=
  State.agreement_ite (State.agreement_loseOrders _) rfl

theorem State.agreement_illegalTransition : s.illegalTransition.agreement = s.agreement :=
  State.agreement_ite rfl rfl

/-! ### Run control -/

theorem State.agreement_startHead (h : HeadId) : s.agreement ≤ (s.startHead h).agreement := by
  unfold State.startHead
  split
  case h_1 mute => exact s.agreement_returnLive h _ mute
  case h_2 => exact (s.agreement_setMisses h 0).ge
  case h_3 => exact le_rfl

theorem State.agreement_prepareStart : s.agreement ≤ s.prepareStart.agreement := by
  simp only [State.prepareStart, State.agreement_changeOverHeadless, State.agreement_modEng]
  exact s.agreement_foldl _ State.agreement_startHead _

theorem State.agreement_syncTrigger : s.agreement ≤ s.syncTrigger.agreement := by
  simp only [State.syncTrigger]
  exact le_trans (s.agreement_modPos _).ge (State.agreement_openSlots ..)

theorem State.agreement_startRun (p : Port) : s.agreement ≤ (s.startRun p).agreement := by
  rw [State.startRun]
  refine le_trans ?_ (State.agreement_answerOk _ p)
  rw [State.agreement_inStep, State.agreement_changeRunState]
  refine le_trans ?_ (State.agreement_syncTrigger _)
  rw [State.agreement_inStep]
  exact s.agreement_prepareStart

theorem State.agreement_stopRun (p : Port) : s.agreement ≤ (s.stopRun p).agreement := by
  rw [State.stopRun]
  refine le_trans (le_of_eq ?_) (State.agreement_answerOk _ p)
  rw [State.agreement_inStep, State.agreement_changeRunState, State.agreement_inStep, State.agreement_closeSkipped]

end

end Sys2Proof.Machine
end

section
/-! SUPPORT. Every command and every step keeps in agreement what stands so. -/

namespace Sys2Proof.Machine

/-! ### Resets (R37, R153, R162) -/

theorem Head.atReset_stateFits (h : HeadId) : (Head.atReset h).stateFits := by
  simp [Head.atReset, Head.stateFits]

theorem PortState.atReset_responseFits : PortState.atReset.responseFits := by
  simp [PortState.atReset, PortState.responseFits]

theorem Marker.atReset_outputFits (record : MarkerRecord) : (Marker.atReset record).outputFits := by
  simp [Marker.atReset, Marker.outputFits]

/-- Where every head, port and marker holds its reset values, all stand in agreement. -/
theorem State.agreement_top {s : State} (heads : s.heads = headsAtReset)
    (ports : s.ports = { a := PortState.atReset, b := PortState.atReset, c := PortState.atReset })
    (markers : ∀ k, ∃ record, s.marker k = Marker.atReset record) (t : State) : t.agreement ≤ s.agreement := by
  refine ⟨fun h _ => ?_, fun p _ => ?_, fun k _ => ?_⟩
  · change (s.head h).stateFits
    rw [State.head, heads, headsAtReset_get]
    exact Head.atReset_stateFits h
  · change (s.ports.get p).responseFits
    rw [ports]
    cases p <;> exact PortState.atReset_responseFits
  · change (s.marker k).outputFits
    obtain ⟨record, same⟩ := markers k
    rw [same]
    exact Marker.atReset_outputFits record

theorem State.agreement_enterInit (s : State) (a b : Bool) : s.agreement ≤ (s.enterInit a b).agreement :=
  State.agreement_top rfl rfl (fun k => ⟨_, State.reset_marker k⟩) s

theorem State.markersRetained_get (s : State) (k : MarkerId) :
    s.markersRetained[k] = Marker.atReset (s.marker k).record := by
  fin_cases k <;> rfl

theorem State.agreement_resetPinned (s : State) (a b : Bool) : s.agreement ≤ (s.resetPinned a b).agreement :=
  State.agreement_top (s := s.resetPinned a b) rfl rfl (fun k => ⟨_, s.markersRetained_get k⟩) s

/-- R162: at the end of INIT a port is IDLE without a response. -/
theorem execInitEnd_agreement (s : State) : ∃ t, execInitEnd s = .next t ∧ s.agreement ≤ t.agreement := by
  have cleared : ∀ (u : State) (p : Port),
      u.agreement ≤ ((u.noteTransfer p).modPort p fun c =>
        { PortState.atReset with dataOut := c.dataOut, shownStatus := c.shownStatus }).agreement := fun u p =>
    (u.agreement_noteTransfer p).ge.trans (State.agreement_le_modPort _ _ _ fun _ => PortState.atReset_responseFits)
  refine ⟨_, rfl, ?_⟩
  split
  · rw [State.agreement_changeRunState, State.atEachPort]
    exact ((cleared s .a).trans (cleared _ .b)).trans (cleared _ .c)
  · exact le_rfl

/-! ### Every command -/

/-- What every command keeps. -/
theorem exec_agreement (c : Instr) (s : State) : ∃ t, exec c s = .next t ∧ s.agreement ≤ t.agreement := by
  cases c with
  | powerOn a b => exact ⟨_, rfl, s.agreement_enterInit a b⟩
  | initEnd => exact execInitEnd_agreement s
  | resetPin a b =>
    refine ⟨_, rfl, ?_⟩
    split
    · exact s.agreement_enterInit a b
    · exact s.agreement_resetPinned a b
  | encoderEdge a b =>
    refine ⟨_, rfl, ?_⟩
    split
    · exact le_rfl
    · exact (s.holding a b).agreement_forwardCount
    · exact (s.holding a b).agreement_backwardCount.ge
    · exact (s.holding a b).agreement_illegalTransition.ge
  | spliceEdge =>
    refine ⟨_, rfl, ge_of_eq (State.agreement_ite ?_ rfl)⟩
    rw [State.agreement_handOnSplice]
    rfl
  | linkUp h => exact execLinkUp_agreement s h
  | linkDown h => exact execLinkDown_agreement s h
  | completePacket h bytes => exact ⟨_, rfl, s.agreement_takePacket ..⟩
  | abortedPacket h bytes => exact ⟨_, rfl, s.agreement_takePacket ..⟩
  | waitExpiry side line => exact ⟨_, rfl, s.agreement_waitExpiry ..⟩
  | lineTake side =>
    refine ⟨_, rfl, ?_⟩
    split
    · rw [State.agreement_runOperation]
      exact le_rfl
    · exact le_rfl
  | lineOperationEnd side =>
    refine ⟨_, rfl, ?_⟩
    split
    · exact s.agreement_releaseLine side
    · exact le_rfl
  | recordAppend => exact ⟨_, rfl, s.agreement_arbitrate.ge⟩
  | pulseEnd k =>
    refine ⟨_, rfl, ?_⟩
    split
    · exact le_rfl
    · exact State.agreement_le_modMarker (s.reachTime _) k _ fun _ => by simp [Marker.outputFits]
  | mcfEdge k => exact ⟨_, rfl, s.agreement_le_modMarker k _ fun fits => fits⟩
  | confirmWindowExpiry k =>
    refine ⟨_, rfl, ?_⟩
    split
    · exact le_rfl
    · rw [State.agreement_markTroubleRecord]
      exact State.agreement_le_modMarker (s.reachTime _) k _ fun fits => fits
  | staleTimerExpiry p =>
    refine ⟨_, rfl, ?_⟩
    split
    · exact le_rfl
    · exact State.agreement_le_modPort (s.reachTime _) p _ fun fits => fits
  | drainEnd =>
    refine ⟨_, rfl, ?_⟩
    split
    · exact s.agreement_endDrain.ge
    · exact le_rfl
  | setHead p body =>
    refine ⟨_, rfl, takeCommand_agreement s p body _ _ fun b u => ?_⟩
    split
    · exact u.agreement_refuse p _
    · exact u.agreement_setHead ..
  | getHead p body =>
    refine ⟨_, rfl, takeCommand_agreement s p body _ _ fun b u => ?_⟩
    split
    · exact u.agreement_refuse p _
    · exact State.agreement_respond_of_le p _ (u.agreement_le_modPort p _ fun fits => fits)
  | setLine p body =>
    refine ⟨_, rfl, takeCommand_agreement s p body _ _ fun b u => ?_⟩
    split_ifs
    · exact u.agreement_refuse p _
    · exact u.agreement_refuse p _
    · exact State.agreement_respond_of_eq p _ rfl
  | setCal p body =>
    refine ⟨_, rfl, takeCommand_agreement s p body _ _ fun b u => ?_⟩
    split
    · exact u.agreement_refuse p _
    · exact u.agreement_reachEngine ..
  | teach p body =>
    refine ⟨_, rfl, takeCommand_agreement s p body _ _ fun b u => ?_⟩
    split
    · exact u.agreement_refuse p _
    · exact u.agreement_reachEngine ..
  | teachAbort p body =>
    refine ⟨_, rfl, takeCommand_agreement s p body _ _ fun b u => ?_⟩
    split
    · exact u.agreement_refuse p _
    · exact u.agreement_reachEngine ..
  | setSide p body =>
    refine ⟨_, rfl, takeCommand_agreement s p body _ _ fun b u => ?_⟩
    split
    · exact u.agreement_refuse p _
    · unfold State.setSide
      split_ifs
      · exact u.agreement_refuse p _
      · exact State.agreement_respond_of_eq p _ rfl
      · exact u.agreement_refuse p _
  | setRecipe p body =>
    refine ⟨_, rfl, takeCommand_agreement s p body _ _ fun b u => ?_⟩
    split
    · exact u.agreement_refuse p _
    · split
      · exact State.agreement_respond_of_eq p _ rfl
      · exact u.agreement_refuse p _
  | setLane p body =>
    refine ⟨_, rfl, takeCommand_agreement s p body _ _ fun b u => ?_⟩
    split
    · unfold State.setLane
      split
      · exact u.agreement_refuse p _
      · split
        · exact u.agreement_refuse p _
        · simp only
          split_ifs
          · exact u.agreement_refuse p _
          · exact u.agreement_refuse p _
          · exact State.agreement_respond_of_eq p _ rfl
    · exact u.agreement_refuse p _
  | switchBank p body =>
    refine ⟨_, rfl, takeCommand_agreement s p body _ _ fun b u => ?_⟩
    split
    · exact u.agreement_refuse p _
    · split_ifs
      · exact u.agreement_refuse p _
      · exact u.agreement_refuse p _
      · exact State.agreement_respond_of_eq p _ (u.agreement_requestSwitch _)
  | cancelSwitch p body =>
    refine ⟨_, rfl, takeCommand_agreement s p body _ _ fun b u => ?_⟩
    split
    · exact State.agreement_respond_of_eq p _ rfl
    · exact u.agreement_refuse p _
  | setMarker p body =>
    refine ⟨_, rfl, takeCommand_agreement s p body _ _ fun b u => ?_⟩
    split
    · split_ifs
      · exact u.agreement_refuse p _
      · exact State.agreement_respond_of_le p _ (u.agreement_le_modMarker _ _ (Marker.setRecord_outputFits _))
    · exact u.agreement_refuse p _
  | mark p body =>
    refine ⟨_, rfl, takeCommand_agreement s p body _ _ fun b u => ?_⟩
    split
    · exact u.agreement_refuse p _
    · split_ifs
      · exact u.agreement_refuse p _
      · exact State.agreement_respond_of_eq p _ (u.agreement_place _)
  | getMarker p body =>
    refine ⟨_, rfl, takeCommand_agreement s p body _ _ fun b u => ?_⟩
    split
    · exact u.agreement_refuse p _
    · exact u.agreement_respond p _
  | readRecords p body => exact ⟨_, rfl, takeCommand_agreement s p body _ _ fun b u => u.agreement_readRecords p _⟩
  | setFilter p body =>
    refine ⟨_, rfl, takeCommand_agreement s p body _ _ fun b u => ?_⟩
    split
    · exact u.agreement_refuse p _
    · exact State.agreement_respond_of_eq p _ (u.agreement_setFilter p b)
  | start p body =>
    refine ⟨_, rfl, takeCommand_agreement s p body _ _ fun b u => ?_⟩
    split_ifs
    · exact u.agreement_refuse p _
    · exact u.agreement_refuse p _
    · exact u.agreement_refuse p _
    · exact u.agreement_startRun p
  | stop p body =>
    refine ⟨_, rfl, takeCommand_agreement s p body _ _ fun b u => ?_⟩
    split
    · exact u.agreement_refuse p _
    · exact u.agreement_stopRun p
  | setNotices p body =>
    exact ⟨_, rfl, takeCommand_agreement s p body _ _ fun b u =>
      State.agreement_respond_of_le p _ (u.agreement_le_modPort p _ fun fits => fits)⟩
  | getNotice p body =>
    refine ⟨_, rfl, takeCommand_agreement s p body _ _ fun b u => State.agreement_respond_of_eq p _ ?_⟩
    refine u.agreement_modPort p _ (fun c => ?_) fun c => ?_ <;> unfold PortState.clearReturned <;> split <;> rfl
  | getStatus p body =>
    exact ⟨_, rfl, takeCommand_agreement s p body _ _ fun b u => State.agreement_respond_of_eq p _ rfl⟩
  | portReset p body =>
    exact ⟨_, rfl, takeCommand_agreement s p body _ _ fun b u =>
      State.agreement_respond_of_eq p _ (u.agreement_resetPort p)⟩
  | fetch p n => exact ⟨_, rfl, s.agreement_fetch p n⟩
  | unknownCommand p code body =>
    refine ⟨_, rfl, ?_⟩
    split
    · exact takeFrame_agreement s p _ _ fun u => u.agreement_refuse p _
    · exact le_rfl
  | badFrame p code rest =>
    refine ⟨_, rfl, ?_⟩
    split
    · simp only
      split <;> simp
    · exact le_rfl

/-- What every step keeps. -/
theorem step_agreement {s t : State} (run : step s = .next t) : s.agreement ≤ t.agreement := by
  cases pending : s.pending with
  | nil =>
    simp only [step, pending] at run
    cases run
    exact le_rfl
  | cons c rest =>
    simp only [step, pending] at run
    obtain ⟨u, completes, keeps⟩ := exec_agreement c { s with pending := rest }
    rw [completes] at run
    cases run
    exact keeps

end Sys2Proof.Machine

open Sys2Proof Sys2Proof.Machine

/-- Settles O60: what every command keeps, read head by head, port by port and marker by marker. -/
theorem stepKeepsStatesInAgreement : Obligations.StepKeepsStatesInAgreement := by
  refine ⟨fun s t fits run h => ?_, fun s t fits run p => ?_, fun s t fits run k => ?_⟩ <;>
    obtain ⟨heads, ports, markers⟩ := step_agreement run
  · exact heads h (fits h)
  · exact ports p (fits p)
  · exact markers k (fits k)
end

section
/-! SUPPORT. Packets: the header check and the field test, the class of a packet, and the joining of its slot. -/

namespace Sys2Proof.Machine

/-! ### Counting (R35) -/

theorem State.count_eq (s : State) (h : HeadId) (f : HeadCounters → HeadCounters) :
    s.count h f = { s with heads := s.heads.set h { s.head h with counters := f (s.head h).counters } } := rfl

theorem State.head_count (s : State) (h : HeadId) (f : HeadCounters → HeadCounters) :
    (s.count h f).head h = { s.head h with counters := f (s.head h).counters } := s.head_modHead_same h _

/-! ### The header of a packet (R20 to R22) -/

theorem State.examines_iff (s : State) (h : HeadId) :
    s.examines h = true ↔
      (s.runState = .inspecting ∨ s.runState = .stopping) ∧ ((s.head h).state = .live ∨ (s.head h).state = .mute) := by
  simp only [State.examines, Bool.and_eq_true, Bool.or_eq_true, decide_eq_true_eq]

/-- R20, R23: packets that a receiver does not examine, and packets without a whole header, change nothing. -/
theorem State.takePacket_unseen (s : State) (h : HeadId) (bytes : List Byte) (f : Nat → List Byte → Contribution)
    (unseen : s.examines h = false) : s.takePacket h bytes f = s := by
  simp [State.takePacket, unseen]

theorem State.takePacket_short (s : State) (h : HeadId) (bytes : List Byte) (f : Nat → List Byte → Contribution)
    (short : bytes.length < 6) : s.takePacket h bytes f = s := by
  unfold State.takePacket
  split
  · split
    · simp only [List.length_cons] at short
      omega
    · rfl
  · rfl

/-- R21: the outcome of the header check of the first six bytes of a packet. -/
def receivedHeader (b0 b1 b2 b3 b4 check : Byte) : HeaderCheck :=
  checkHeader (bitsOf b0 ++ bitsOf b1 ++ bitsOf b2 ++ bitsOf b3 ++ bitsOf b4) check

theorem State.takePacket_uncorrectable {s : State} {h : HeadId} {b0 b1 b2 b3 b4 check : Byte} (data : List Byte)
    (f : Nat → List Byte → Contribution) (seen : s.examines h = true)
    (received : receivedHeader b0 b1 b2 b3 b4 check = .uncorrectable) :
    s.takePacket h (b0 :: b1 :: b2 :: b3 :: b4 :: check :: data) f
      = s.count h fun k => { k with uncorrectable := k.uncorrectable + 1 } := by
  rw [receivedHeader] at received
  simp only [State.takePacket, seen, if_true, received]

/-- R21, R35: a header that is clean, or corrected and counted so, goes on to the field test. -/
theorem State.takePacket_read {s : State} {h : HeadId} {b0 b1 b2 b3 b4 check : Byte} {header : List Bool}
    {fixed : Counter} (data : List Byte) (f : Nat → List Byte → Contribution) (seen : s.examines h = true)
    (received : (receivedHeader b0 b1 b2 b3 b4 check = .clean header ∧ fixed = 0)
      ∨ (receivedHeader b0 b1 b2 b3 b4 check = .corrected header ∧ fixed = 1)) :
    s.takePacket h (b0 :: b1 :: b2 :: b3 :: b4 :: check :: data) f
      = (s.count h fun k => { k with corrected := k.corrected + fixed }).takeHeader h (readHeader header) fun n =>
          f n data := by
  rcases received with ⟨received, rfl⟩ | ⟨received, rfl⟩ <;> rw [receivedHeader] at received
  · have same : (s.count h fun k => { k with corrected := k.corrected + 0 }) = s :=
      s.modHead_eq_self h _ (by simp)
    simp only [State.takePacket, seen, if_true, received, same]
  · simp only [State.takePacket, seen, if_true, received]

/-- R22: the header is good: LINE, of this head, and a pixel count of 1 to 4096. -/
theorem badFields_iff (h : HeadId) (hd : PacketHeader) :
    badFields h hd = false ↔ hd.kind = 1 ∧ hd.headId = h.val ∧ 1 ≤ hd.pixelCount ∧ hd.pixelCount ≤ 4096 := by
  simp only [badFields, Bool.or_eq_false_iff, decide_eq_false_iff_not, not_not, and_assoc]
  omega

/-- R22: bad fields. -/
theorem State.takeHeader_bad {s : State} {h : HeadId} {hd : PacketHeader} (f : Nat → Contribution)
    (bad : badFields h hd = true) :
    s.takeHeader h hd f = s.count h fun k => { k with badHeader := k.badHeader + 1 } := if_pos bad

/-! ### Classification (R23, R24) -/

/-- R24: the class of a packet does not depend on the counters. -/
theorem State.classify_count (s : State) (h : HeadId) (f : HeadCounters → HeadCounters) (line : LineNo) :
    (s.count h f).classify h line = s.classify h line := by
  simp only [State.classify, State.head_count]
  rfl

/-- R24: a packet of an open slot. -/
theorem State.classify_open {s : State} {h : HeadId} {line : LineNo} {slot : Slot}
    (opened : s.slotOf (s.head h).geometry.side line = some slot) :
    s.classify h line = if slot.contributions[h].isSome then .duplicate else .accepted := by
  simp only [State.classify, opened]

/-- R24: a packet without an open slot. -/
theorem State.classify_closed {s : State} {h : HeadId} {line : LineNo}
    (closed : s.slotOf (s.head h).geometry.side line = none) :
    s.classify h line = if ahead line s.pos.lineNumber then .future else .late := by
  simp only [State.classify, closed]

theorem State.takeHeader_accepted {s : State} {h : HeadId} {hd : PacketHeader} (f : Nat → Contribution)
    (good : badFields h hd = false) (accepted : s.classify h hd.line = .accepted) :
    s.takeHeader h hd f = s.accept h hd.line (f hd.pixelCount) := by
  simp only [State.takeHeader, good, Bool.false_eq_true, if_false, accepted]

/-- R24: a DUPLICATE packet and a LATE one count in the same counter. -/
theorem State.takeHeader_late {s : State} {h : HeadId} {hd : PacketHeader} (f : Nat → Contribution)
    (good : badFields h hd = false) (late : s.classify h hd.line = .duplicate ∨ s.classify h hd.line = .late) :
    s.takeHeader h hd f = s.count h fun k => { k with late := k.late + 1 } := by
  rcases late with duplicate | late
  · simp only [State.takeHeader, good, Bool.false_eq_true, if_false, duplicate]
  · simp only [State.takeHeader, good, Bool.false_eq_true, if_false, late]

theorem State.takeHeader_future {s : State} {h : HeadId} {hd : PacketHeader} (f : Nat → Contribution)
    (good : badFields h hd = false) (future : s.classify h hd.line = .future) :
    s.takeHeader h hd f = s.count h fun k => { k with future := k.future + 1 } := by
  simp only [State.takeHeader, good, Bool.false_eq_true, if_false, future]

/-- A packet of either kind, where nothing of what it contributes counts. -/
theorem exec_packets {s t : State} {h : HeadId} {bytes : List Byte} (all : ∀ f, s.takePacket h bytes f = t) :
    exec (.completePacket h bytes) s = .next t ∧ exec (.abortedPacket h bytes) s = .next t :=
  ⟨congrArg Host.Outcome.next (all _), congrArg Host.Outcome.next (all _)⟩

/-! ### The slot that a packet joins (R39, R42) -/

theorem updateSlot_append {line : LineNo} (f : Slot → Slot) {before : List Slot} {slot : Slot} (after : List Slot)
    (others : ∀ x ∈ before, x.line ≠ line) (own : slot.line = line) :
    updateSlot line f (before ++ slot :: after) = before ++ f slot :: after := by
  induction before with
  | nil => simp [updateSlot, own]
  | cons x rest ih =>
    rw [List.cons_append, updateSlot, if_neg (others x (by simp)), ih fun y mem => others y (by simp [mem])]
    rfl

/-- The slot of a line number is the first of it. -/
theorem State.slotOf_append {s : State} {side : Side} {line : LineNo} {before : List Slot} {slot : Slot}
    {after : List Slot} (slots : (s.asm.get side).slots = before ++ slot :: after)
    (others : ∀ x ∈ before, x.line ≠ line) (own : slot.line = line) : s.slotOf side line = some slot := by
  rw [State.slotOf, slots]
  exact List.find?_eq_some_iff_append.mpr
    ⟨decide_eq_true own, before, after, rfl, fun x mem => by simpa using others x mem⟩

/-- R39: a contribution joins a slot. -/
theorem Slot.contribute_eq (slot : Slot) (h : HeadId) (c : Contribution) : slot.contribute h c = slot.joinedBy h c := by
  have each : ∀ g : HeadId,
      (slot.contributions.set h (some c))[g].isSome = (decide (g = h) || slot.contributions[g].isSome) := fun g => by
    by_cases same : g = h
    · simp [same]
    · have apart : (h : Nat) ≠ g := fun e => same (Fin.ext e.symm)
      simp [same, apart]
  simp only [Slot.contribute, Slot.completed, Slot.joinedBy, each]

/-- R42: while the oldest slot gathers, none closes. -/
theorem State.closeReady_gathering {s : State} {side : Side}
    (gathering : ∀ oldest, (s.asm.get side).slots.head? = some oldest → oldest.ready = false) :
    s.closeReady side = s := by
  cases slots : (s.asm.get side).slots with
  | nil => simp [State.closeReady, State.cascade, slots]
  | cons oldest rest => simp [State.closeReady, State.cascade, slots, gathering oldest (by rw [slots]; rfl)]

/-- R42: the READY slots at the head of the order close one after the other. -/
theorem State.closeReady_linesClosed (s : State) (side : Side) :
    State.linesClosed side ((s.asm.get side).slots.dropWhile (·.ready)) ((s.asm.get side).slots.takeWhile (·.ready)) s
      (s.closeReady side) := State.cascade_linesClosed side _ s le_rfl

@[simp] theorem State.joined_slots (s : State) (h : HeadId) (fixed : Counter) (c : Contribution) (slots : List Slot) :
    ((s.joined h fixed c slots).asm.get (s.head h).geometry.side).slots = slots := by
  rw [State.joined, PerSide.get_set_same]

/-- R24 to R26, R32, R35, R39, R42: an accepted packet joins its slot, and then the READY slots close that no older slot
holds back. -/
theorem State.accept_joined {s : State} {h : HeadId} {line : LineNo} (fixed : Counter) (c : Contribution)
    {before : List Slot} {slot : Slot} {after : List Slot}
    (looks : (s.head h).state = .live ∨ (s.head h).state = .mute)
    (slots : (s.asm.get (s.head h).geometry.side).slots = before ++ slot :: after) (own : slot.line = line)
    (others : ∀ x ∈ before, x.line ≠ line) :
    (s.count h fun k => { k with corrected := k.corrected + fixed }).accept h line c
      = (s.joined h fixed c (before ++ slot.joinedBy h c :: after)).closeReady (s.head h).geometry.side := by
  simp only [State.accept_eq, State.addContribution, State.head_count, State.count_count]
  refine congrArg (State.closeReady · (s.head h).geometry.side) ?_
  have joins : updateSlot line (Slot.contribute h c) (before ++ slot :: after)
      = before ++ slot.joinedBy h c :: after := by
    rw [updateSlot_append _ after others own, Slot.contribute_eq]
  by_cases mute : (s.head h).state = .mute
  · simp only [if_pos mute, State.count, State.setMisses, State.modHead_modHead]
    rw [State.setHeadState_modHead _ _ _ _ _ (by simp [mute])]
    simp only [State.joined, State.modAsm, slots, joins, mute, if_true, State.headStateOffer, Function.comp]
    rfl
  · have live : (s.head h).state = .live := looks.resolve_right mute
    simp only [State.joined, State.count_eq, State.modAsm, slots, joins, if_neg mute, ← live]
    rfl

/-- R20 to R24: the bytes of an accepted packet are taken so. -/
theorem State.accepts.takePacket {s : State} {h : HeadId} {bytes : List Byte} {header : List Bool} {fixed : Counter}
    {data : List Byte} {before : List Slot} {slot : Slot} {after : List Slot}
    (taken : s.accepts h bytes header fixed data before slot after) (f : Nat → List Byte → Contribution) :
    let c := f (readHeader header).pixelCount data
    s.takePacket h bytes f
      = (s.joined h fixed c (before ++ slot.joinedBy h c :: after)).closeReady (s.head h).geometry.side := by
  obtain ⟨inspects, looks, ⟨b0, b1, b2, b3, b4, check, rfl, received⟩, kind, own, low, high, slots, line, others,
    none_yet⟩ := taken
  have good : badFields h (readHeader header) = false := (badFields_iff h _).mpr ⟨kind, own, low, high⟩
  have accepted : s.classify h (readHeader header).line = .accepted := by
    rw [State.classify_open (State.slotOf_append slots others line), none_yet]
    rfl
  rw [State.takePacket_read data f ((s.examines_iff h).mpr ⟨inspects, looks⟩) received,
    State.takeHeader_accepted _ good (by rw [State.classify_count, accepted])]
  exact State.accept_joined fixed _ looks slots line others

end Sys2Proof.Machine
end

section
/-! SUPPORT. The statements of the link events, the packets and SET_HEAD, settled. -/

namespace Sys2Proof.Machine

/-! ### The columns of a payload (R25, R27, R28) -/

/-- R27, R28: the column of window pixel i. -/
def Geometry.column (g : Geometry) (i : Nat) : Nat :=
  if g.direction = .ascending then g.columnOrigin + i else g.columnOrigin - i

/-- R27, R28: the columns of pixels are those of their places. -/
theorem mem_pixelColumns (g : Geometry) (pixels : List Byte) (column : Nat) (value : Byte) :
    (column, value) ∈ pixelColumns g pixels ↔ ∃ i, pixels[i]? = some value ∧ column = g.column i := by
  have places : ∀ f : Nat → Nat,
      (column, value) ∈ pixels.zipIdx.map (fun vi => (f vi.2, vi.1)) ↔ ∃ i, pixels[i]? = some value ∧ column = f i := by
    intro f
    simp only [List.mem_map, Prod.mk.injEq]
    constructor
    · rintro ⟨⟨v, i⟩, mem, rfl, rfl⟩
      exact ⟨i, List.mk_mem_zipIdx_iff_getElem?.mp mem, rfl⟩
    · rintro ⟨i, at_i, rfl⟩
      exact ⟨(value, i), List.mk_mem_zipIdx_iff_getElem?.mpr at_i, rfl, rfl⟩
  cases direction : g.direction with
  | ascending => simpa only [pixelColumns, Geometry.column, direction, if_true] using places _
  | descending =>
    simpa only [pixelColumns, Geometry.column, direction, List.mem_reverse, reduceCtorEq, if_false] using places _

/-- R27: window pixel i is payload pixel window start + i. -/
theorem windowPixels_get (g : Geometry) (payload : List Byte) (i : Nat) (value : Byte) :
    (windowPixels g payload.length payload)[i]? = some value ↔
      i < g.windowWidth ∧ payload[g.windowStart + i]? = some value := by
  rw [windowPixels, List.take_length, List.getElem?_take]
  split
  case isTrue inside => simp [inside]
  case isFalse outside => simp [outside]

/-- R169: the CRC of a payload with its two CRC bytes. -/
theorem crcPasses_iff (payload : List Byte) (hi lo : Byte) :
    crcPasses (payload ++ [hi, lo]) = true ↔ (crc16 payload).toNat = 256 * hi.toNat + lo.toNat := by
  simp [crcPasses, be16]

/-! ### The operands of SET_HEAD (R28, R29, R171) -/

theorem byte_le_one (b : Byte) : b.toNat ≤ 1 ↔ b = 0 ∨ b = 1 := by
  constructor
  · intro small
    rcases Nat.le_one_iff_eq_zero_or_eq_one.mp small with zero | one
    · exact .inl (BitVec.eq_of_toNat_eq zero)
    · exact .inr (BitVec.eq_of_toNat_eq one)
  · rintro (rfl | rfl) <;> decide

/-- A field with the two codes 0 and 1. -/
theorem two_codes {α : Type} (b : Byte) (x y : α) :
    (if b = 0 then some x else if b = 1 then some y else none)
      = if b.toNat ≤ 1 then some (if b = 0 then x else y) else none := by
  by_cases small : b.toNat ≤ 1
  · rw [if_pos small]
    rcases (byte_le_one b).mp small with rfl | rfl <;> rfl
  · obtain ⟨zero, one⟩ := not_or.mp fun either => small ((byte_le_one b).mpr either)
    rw [if_neg zero, if_neg one, if_neg small]

theorem readBool_eq (b : Byte) : readBool b = if b.toNat ≤ 1 then some (decide (b = 1)) else none := by
  refine (two_codes b false true).trans (ite_congr rfl (fun small => ?_) fun _ => rfl)
  rcases (byte_le_one b).mp small with rfl | rfl <;> rfl

theorem readSide_eq (b : Byte) : readSide b = if b.toNat ≤ 1 then some (if b = 0 then .top else .bottom) else none :=
  two_codes b _ _

theorem readDirection_eq (b : Byte) :
    readDirection b = if b.toNat ≤ 1 then some (if b = 0 then .ascending else .descending) else none := two_codes b _ _

/-- R28: the geometry record that a body spells, where its encodings are valid. -/
def SetHeadBody.spelled (b : SetHeadBody) : Geometry where
  enabled := b.enabled = 1
  side := if b.side = 0 then .top else .bottom
  windowStart := b.windowStart
  windowWidth := b.windowWidth
  columnOrigin := b.columnOrigin
  direction := if b.direction = 0 then .ascending else .descending

theorem SetHeadBody.geometry_eq (b : SetHeadBody) :
    b.geometry =
      if b.enabled.toNat ≤ 1 ∧ b.side.toNat ≤ 1 ∧ b.direction.toNat ≤ 1 then some b.spelled else none := by
  simp only [SetHeadBody.geometry, readBool_eq, readSide_eq, readDirection_eq]
  by_cases enabled : b.enabled.toNat ≤ 1
  · by_cases side : b.side.toNat ≤ 1
    · by_cases direction : b.direction.toNat ≤ 1 <;> simp [enabled, side, direction, SetHeadBody.spelled]
    · simp [enabled, side]
  · simp [enabled]

/-- R28: a geometry record in range and consistent. -/
theorem Geometry.consistent_iff (g : Geometry) :
    g.consistent = true ↔
      g.windowStart ≤ 4095 ∧ 1 ≤ g.windowWidth ∧ g.windowWidth ≤ 4096 ∧ g.columnOrigin ≤ 16383
        ∧ g.windowStart + g.windowWidth ≤ 4096 ∧ (g.direction = .ascending → g.columnOrigin + g.windowWidth - 1 ≤ 16383)
        ∧ (g.direction = .descending → g.windowWidth - 1 ≤ g.columnOrigin) := by
  cases direction : g.direction <;> simp [Geometry.consistent, direction, and_assoc]

/-- Two ranges of columns meet where they share a column. -/
theorem rangesMeet_iff {first last first' last' : Nat} (range : first ≤ last) (range' : first' ≤ last') :
    rangesMeet first last first' last' = true ↔
      ∃ column, first ≤ column ∧ column ≤ last ∧ first' ≤ column ∧ column ≤ last' := by
  simp only [rangesMeet, Bool.and_eq_true, decide_eq_true_eq]
  refine ⟨fun ⟨below, above⟩ => ⟨max first first', ?_⟩, fun ⟨column, in_range⟩ => ?_⟩ <;> omega

theorem Geometry.span_range (g : Geometry) : g.spanFirst ≤ g.spanLast := Nat.le_add_right ..

/-- R29 step 4: the span shares a column with that of another enabled head of its side. -/
theorem State.overlaps_iff (s : State) (h : HeadId) (g : Geometry) :
    s.overlaps h g = true ↔
      ∃ other : HeadId, other ≠ h ∧ (s.head other).geometry.enabled = true ∧ (s.head other).geometry.side = g.side
        ∧ ∃ column, g.spanFirst ≤ column ∧ column ≤ g.spanLast ∧ (s.head other).geometry.spanFirst ≤ column
          ∧ column ≤ (s.head other).geometry.spanLast := by
  simp only [State.overlaps, List.any_eq_true, mem_allHeads, true_and, Bool.and_eq_true, decide_eq_true_eq,
    State.headOn, rangesMeet_iff g.span_range (Geometry.span_range _), and_assoc]

/-- R156 check 5: SET_HEAD at a port that takes it, with an index that names no receiver. -/
theorem exec_setHead_noHead {s : State} {p : Port} {i : Byte} (e sd s1 s0 w1 w0 c1 c0 d : Byte) (taken : s.takes p)
    (big : 8 ≤ i.toNat) : exec (.setHead p [i, e, sd, s1, s0, w1, w0, c1, c0, d]) s = .next (s.refused p 10 .range) := by
  refine congrArg Host.Outcome.next ((takeCommand_taken s p _ readSetHead _ taken).trans ?_)
  simp only [readSetHead, readIndex_ge big]
  exact State.refuse_begun ..

/-- R29: SET_HEAD at a port that takes it, with the index of a receiver: its body is read. -/
theorem exec_setHead_at {s : State} {p : Port} (h : HeadId) (e sd s1 s0 w1 w0 c1 c0 d : Byte) (taken : s.takes p) :
    exec (.setHead p [BitVec.ofNat 8 h.val, e, sd, s1, s0, w1, w0, c1, c0, d]) s =
      .next
        ((s.begun p 10).setHead p h
          { index := BitVec.ofNat 8 h.val, enabled := e, side := sd, windowStart := be16 s1 s0
            windowWidth := be16 w1 w0, columnOrigin := be16 c1 c0, direction := d }) := by
  refine congrArg Host.Outcome.next ((takeCommand_taken s p _ readSetHead _ taken).trans ?_)
  simp only [readSetHead, readIndex_ofNat h (by decide)]
  rfl

/-- R28: the encodings are valid and the record they spell is in range and consistent. -/
def SetHeadBody.valid (b : SetHeadBody) : Bool :=
  decide (b.enabled.toNat ≤ 1 ∧ b.side.toNat ≤ 1 ∧ b.direction.toNat ≤ 1) && b.spelled.consistent

/-- R155: the answer of a command that has moved a head or left it, seen from before the command. -/
theorem State.answerOk_head (s : State) (p : Port) (len : Nat) (heads : Vector Head 8) (still : Prop) [Decidable still]
    (store : Store) :
    ({ s.begun p len with
        heads := heads
        ports := if still then (s.begun p len).ports else (s.begun p len).ports.all PortState.withHeadChange
        store := store } : State).answerOk p
      = { s.answered p len { code := .ok, body := [] } with
          heads := heads
          ports :=
            if still then (s.answered p len { code := .ok, body := [] }).ports
            else (s.answered p len { code := .ok, body := [] }).ports.all PortState.withHeadChange
          store := store } := by
  by_cases c : still
  · simp only [if_pos c]
    cases p <;> rfl
  · simp only [if_neg c]
    cases p <;> rfl

/-- R29: SET_HEAD at a receiver, of a command that the port has taken: the checks in their order, then the change. -/
theorem State.setHead_begun (s : State) (p : Port) (h : HeadId) (b : SetHeadBody) :
    (s.begun p 10).setHead p h b =
      if s.runState ≠ .standby then s.refused p 10 .state
      else if b.valid = false then s.refused p 10 .range
      else if b.spelled.enabled = true ∧ s.overlaps h b.spelled = true then s.refused p 10 .overlap
      else
        { s.answered p 10 { code := .ok, body := [] } with
          heads := s.heads.set h ((s.head h).configured b.spelled)
          ports :=
            if (s.head h).state = (s.head h).enabledState b.spelled.enabled then
              (s.answered p 10 { code := .ok, body := [] }).ports
            else (s.answered p 10 { code := .ok, body := [] }).ports.all PortState.withHeadChange
          store :=
            if (s.head h).state = (s.head h).enabledState b.spelled.enabled then s.store
            else
              s.store.adding
                [s.headStateOffer h b.spelled.side (s.head h).state ((s.head h).enabledState b.spelled.enabled)
                  .setHead] } := by
  have runState : (s.begun p 10).runState = s.runState := rfl
  simp only [State.setHead, runState, SetHeadBody.geometry_eq, State.refuse_begun]
  refine ite_congr rfl (fun _ => rfl) fun _ => ?_
  by_cases encoded : b.enabled.toNat ≤ 1 ∧ b.side.toNat ≤ 1 ∧ b.direction.toNat ≤ 1
  · have valid : (b.valid = false) = ((!b.spelled.consistent) = true) := by simp [SetHeadBody.valid, encoded]
    simp only [if_pos encoded, valid]
    refine ite_congr rfl (fun _ => rfl) fun _ => ite_congr ?_ (fun _ => rfl) fun _ => ?_
    · exact Bool.and_eq_true ..
    · rw [State.configureHead_eq]
      exact s.answerOk_head p 10 _ _ _
  · have invalid : b.valid = false := by simp only [SetHeadBody.valid, encoded, decide_false, Bool.false_and]
    simp only [if_neg encoded, if_pos invalid]

end Sys2Proof.Machine

open Sys2Proof Sys2Proof.Machine

/-- Settles O15, by the laws of LINK_UP and LINK_DOWN. -/
theorem linkEventsMoveHead : Obligations.LinkEventsMoveHead := by
  intro s h report
  refine ⟨fun up => ?_, fun down there => execLinkUp_present down there, fun down gone => ?_, fun down => ?_,
    fun up live mute => execLinkDown_unseen up (not_or.mpr ⟨live, mute⟩), fun up seen => execLinkDown_seen up seen⟩
  · exact congrArg Host.Outcome.next (if_pos up)
  · exact execLinkUp_absent down gone
  · exact congrArg Host.Outcome.next (if_neg (by simp [down]))

/-- Settles O17: each packet by its header check, its field test and its class. -/
theorem packetsNotAcceptedOnlyCount : Obligations.PacketsNotAcceptedOnlyCount := by
  intro s h bytes inspects looks counted both
  refine ⟨fun unseen => exec_packets fun f => s.takePacket_unseen h bytes f ?_,
    fun short => exec_packets fun f => s.takePacket_short h bytes f short, ?_⟩
  · exact Bool.eq_false_iff.mpr fun seen => unseen ((s.examines_iff h).mp seen)
  rintro b0 b1 b2 b3 b4 check data rfl inspecting looking received old
  have seen : s.examines h = true := (s.examines_iff h).mpr ⟨inspecting, looking⟩
  refine ⟨fun bad => exec_packets fun f => State.takePacket_uncorrectable data f seen bad, ?_⟩
  intro header fixed checked hd good slot
  have fields : badFields h hd = false ↔ good := badFields_iff h hd
  let u := s.count h fun k => { k with corrected := k.corrected + fixed }
  have twice : ∀ g : HeadCounters → HeadCounters,
      u.count h g = counted (g { old with corrected := old.corrected + fixed }) := fun g => s.count_count h _ g
  have reads : ∀ {t : State}, (∀ f, u.takeHeader h hd f = t) → both t := fun all =>
    exec_packets fun f => (State.takePacket_read data f seen checked).trans (all _)
  refine ⟨fun bad => ?_, fun fits ⟨x, opened, given⟩ => ?_, fun fits closed behind => ?_, fun fits closed front => ?_⟩
  · refine reads fun f => (State.takeHeader_bad f ?_).trans (twice _)
    exact Bool.not_eq_false _ ▸ fun ok => bad (fields.mp ok)
  · refine reads fun f => (State.takeHeader_late f (fields.mpr fits) (.inl ?_)).trans (twice _)
    rw [State.classify_count, State.classify_open opened, if_pos given]
  · refine reads fun f => (State.takeHeader_late f (fields.mpr fits) (.inr ?_)).trans (twice _)
    rw [State.classify_count, State.classify_closed closed, if_neg (by simp [behind])]
  · refine reads fun f => (State.takeHeader_future f (fields.mpr fits) ?_).trans (twice _)
    rw [State.classify_count, State.classify_closed closed, if_pos front]

/-- Settles O18: behind the joining the oldest slot gathers, and no slot closes. -/
theorem acceptedPacketJoinsItsSlot : Obligations.AcceptedPacketJoinsItsSlot := by
  intro s h bytes header fixed data before slot after taken slots joins
  have joined : ∀ f : Nat → List Byte → Contribution,
      let c := f (readHeader header).pixelCount data
      (∀ oldest, (slots c).head? = some oldest → oldest.ready = false) →
        s.takePacket h bytes f = s.joined h fixed c (slots c) := by
    intro f c gathering
    rw [taken.takePacket f]
    exact State.closeReady_gathering (by rwa [State.joined_slots])
  exact ⟨fun gathering => congrArg Host.Outcome.next (joined _ gathering),
    fun gathering => congrArg Host.Outcome.next (joined _ gathering)⟩

/-- Settles O19: behind the joining the cascade closes the READY slots that no older slot holds back. -/
theorem completingPacketClosesLine : Obligations.CompletingPacketClosesLine := by
  intro s h bytes header fixed data before slot after taken side slots closes
  have cascades : ∀ f : Nat → List Byte → Contribution,
      let c := f (readHeader header).pixelCount data
      State.linesClosed side ((slots c).dropWhile (·.ready)) ((slots c).takeWhile (·.ready))
        (s.joined h fixed c (slots c)) (s.takePacket h bytes f) := by
    intro f c
    rw [taken.takePacket f]
    have lines := (s.joined h fixed c (slots c)).closeReady_linesClosed side
    rwa [State.joined_slots] at lines
  exact ⟨fun _ => ⟨_, rfl, cascades fun n data => completeContribution (s.head h).geometry n data⟩,
    fun _ => ⟨_, rfl, cascades fun _ _ => abortContribution⟩⟩

/-- Settles O20: a column carries a value exactly if a window pixel that the payload reaches falls on it. -/
theorem payloadFallsOnWindowColumns : Obligations.PayloadFallsOnWindowColumns := by
  intro g payload hi lo _ c
  refine ⟨fun passes => ?_, fun fails => if_neg fun passes => fails ((crcPasses_iff payload hi lo).mp passes)⟩
  have contribution : c =
      { mark := if payload.length < g.windowStart + g.windowWidth then .short else .full
        cols := pixelColumns g (windowPixels g payload.length payload) } := by
    rw [show c = _ from if_pos ((crcPasses_iff payload hi lo).mpr passes)]
    simp
  rw [contribution]
  refine ⟨rfl, fun column value => ?_⟩
  simp only [mem_pixelColumns, windowPixels_get, and_assoc, Geometry.column]

/-- Settles O21: the command is taken, its checks stand in their order, and the change is that of a configured head. -/
theorem setHeadReplacesGeometry : Obligations.SetHeadReplacesGeometry := by
  intro s p i e sd s1 s0 w1 w0 c1 c0 d taken body start width origin fits g
  let b : SetHeadBody :=
    { index := i, enabled := e, side := sd, windowStart := start, windowWidth := width, columnOrigin := origin,
      direction := d }
  have valid : b.valid = true ↔ fits := by
    have ascending : g.direction = .ascending ↔ d = 0 := by
      by_cases zero : d = 0 <;> simp [g, zero]
    have descending : d.toNat ≤ 1 → (g.direction = .descending ↔ d = 1) := fun small => by
      rcases (byte_le_one d).mp small with rfl | rfl <;> simp [g]
    rw [SetHeadBody.valid, Bool.and_eq_true, decide_eq_true_eq, Geometry.consistent_iff]
    constructor
    · rintro ⟨⟨enabled, side, dir⟩, first, some_width, most, column, window, up, down⟩
      exact ⟨enabled, side, dir, first, some_width, most, column, window, fun zero => up (ascending.mpr zero),
        fun one => down ((descending dir).mpr one)⟩
    · rintro ⟨enabled, side, dir, first, some_width, most, column, window, up, down⟩
      exact ⟨⟨enabled, side, dir⟩, first, some_width, most, column, window, fun asc => up (ascending.mp asc),
        fun desc => down ((descending dir).mp desc)⟩
  refine ⟨fun big => exec_setHead_noHead e sd s1 s0 w1 w0 c1 c0 d taken big, fun h index => ?_⟩
  · subst index
    intro shares new misses
    have meets : s.overlaps h g = true ↔ shares := s.overlaps_iff h g
    have outcome := (exec_setHead_at h e sd s1 s0 w1 w0 c1 c0 d taken).trans
      (congrArg Host.Outcome.next (s.setHead_begun p h b))
    refine ⟨fun away => ?_, fun rests bad => ?_, fun rests good one shared => ?_, fun rests good apart => ?_⟩
    · rw [outcome, if_pos away]
    · rw [outcome, if_neg (not_not.mpr rests), if_pos (Bool.eq_false_iff.mpr fun ok => bad (valid.mp ok))]
    · rw [outcome, if_neg (not_not.mpr rests), if_neg (by simp [valid.mpr good]),
        if_pos ⟨decide_eq_true one, meets.mpr shared⟩]
    · have state : (s.head h).enabledState b.spelled.enabled = new := by
        obtain ⟨small, -⟩ := good
        rcases (byte_le_one e).mp small with rfl | rfl <;> rfl
      have count : (s.head h).enabledMisses b.spelled.enabled = misses := by
        rw [Head.enabledMisses, state]
      have clear : ¬(b.spelled.enabled = true ∧ s.overlaps h b.spelled = true) :=
        fun ⟨on, met⟩ => apart (of_decide_eq_true on) (meets.mp met)
      rw [outcome, if_neg (not_not.mpr rests), if_neg (by simp [valid.mpr good]), if_neg clear, Head.configured, state,
        count]
      rfl
end

section
/-! SUPPORT. The header code (R21, R170): the syndrome as the sum, bit by bit, of the code positions whose bits are set;
what an error adds to it; and the statement about the header check, settled. -/

namespace Sys2Proof.Machine

/-! ### Parity -/

@[simp] theorem oddParity_nil : oddParity [] = false := rfl

@[simp] theorem oddParity_cons (b : Bool) (bits : List Bool) : oddParity (b :: bits) = (b ^^ oddParity bits) := by
  have from_start : ∀ (bits : List Bool) (start : Bool), bits.foldl xor start = (start ^^ bits.foldl xor false) := by
    intro bits
    induction bits with
    | nil => simp
    | cons x rest ih =>
      intro start
      rw [List.foldl_cons, ih, List.foldl_cons, ih (false ^^ x), Bool.false_xor, Bool.xor_assoc]
  rw [oddParity, List.foldl_cons, from_start, Bool.false_xor]
  rfl

@[simp] theorem oddParity_append (x y : List Bool) : oddParity (x ++ y) = (oddParity x ^^ oddParity y) := by
  induction x with
  | nil => simp
  | cons b rest ih => simp [ih]

/-- One bit in error changes the parity. -/
theorem oddParity_modify (bits : List Bool) (i : Nat) (inside : i < bits.length) :
    oddParity (bits.modify i not) = !oddParity bits := by
  induction bits generalizing i with
  | nil => simp at inside
  | cons b rest ih =>
    cases i with
    | zero => simp
    | succ i => simp [ih i (by simpa using inside)]

/-! ### The code sum -/

/-- R170: the code positions whose bits are set, added bit by bit. -/
def codeSum : List (Nat × Bool) → Nat
  | [] => 0
  | (position, bit) :: rest => (if bit then position else 0) ^^^ codeSum rest

theorem codeSum_append (x y : List (Nat × Bool)) : codeSum (x ++ y) = codeSum x ^^^ codeSum y := by
  induction x with
  | nil => simp [codeSum]
  | cons pb rest ih => simp [codeSum, ih, Nat.xor_assoc]

theorem codeSum_lt (coded : List (Nat × Bool)) (positions : ∀ pb ∈ coded, pb.1 < 64) : codeSum coded < 64 := by
  induction coded with
  | nil => decide
  | cons pb rest ih =>
    refine Nat.xor_lt_two_pow (n := 6) ?_ (ih fun x mem => positions x (by simp [mem]))
    split
    · exact positions pb (by simp)
    · decide

/-- R170: syndrome bit k is bit k of the code sum. -/
theorem syndromeBit_eq (coded : List (Nat × Bool)) (k : Nat) : syndromeBit coded k = (codeSum coded).testBit k := by
  induction coded with
  | nil => simp [syndromeBit, codeSum]
  | cons pb rest ih =>
    obtain ⟨position, bit⟩ := pb
    rw [codeSum, Nat.testBit_xor, ← ih]
    cases set : position.testBit k <;> cases bit <;> simp [syndromeBit, set]

/-- A number of six bits is the sum of its bits. -/
theorem sum_bitAt : ∀ n < 64,
    bitAt (n.testBit 0) 0 + bitAt (n.testBit 1) 1 + bitAt (n.testBit 2) 2 + bitAt (n.testBit 3) 3
      + bitAt (n.testBit 4) 4 + bitAt (n.testBit 5) 5 = n := by
  decide

/-- R170: the syndrome is the code sum. -/
theorem syndrome_eq (coded : List (Nat × Bool)) (positions : ∀ pb ∈ coded, pb.1 < 64) :
    syndrome coded = codeSum coded := by
  simp only [syndrome, syndromeBit_eq]
  exact sum_bitAt _ (codeSum_lt coded positions)

/-- A bit in error adds its position to the code sum. -/
theorem codeSum_zip_modify (positions : List Nat) (bits : List Bool) (i : Nat) (inside : i < positions.length)
    (same : bits.length = positions.length) :
    codeSum (positions.zip (bits.modify i not)) = codeSum (positions.zip bits) ^^^ positions[i] := by
  induction positions generalizing bits i with
  | nil => simp at inside
  | cons position rest ih =>
    cases bits with
    | nil => simp at same
    | cons bit bits =>
      cases i with
      | zero => cases bit <;> simp [codeSum, Nat.xor_comm]
      | succ i =>
        have tail := ih bits i (by simpa using inside) (by simpa using same)
        simp [codeSum, tail, Nat.xor_assoc]

/-! ### The header and the check byte -/

theorem headerPositions_bounds : ∀ i (h : i < 40), headerPositions[i] ≠ 0 ∧ headerPositions[i] ≤ 46 := by decide

theorem headerPositions_nodup : headerPositions.Nodup := by decide

/-- R170: the positions of the check bits. -/
def checkPositions : List Nat := [1, 2, 4, 8, 16, 32]

/-- The lowest n bits of a check byte, bit 0 first. -/
def lowBits (n : Nat) (check : Byte) : List Bool := (List.range n).map check.getLsbD

/-- R170: the position of bit k of the check byte in the code; the parity bit and bit 7 have none. -/
def checkPosition (k : Nat) : Nat := if k < 6 then 2 ^ k else 0

/-- R170: a check bit stands at a position of its own. -/
theorem headerPositions_ne_checkPosition : ∀ i (h : i < 40), ∀ k < 7, headerPositions[i] ≠ checkPosition k := by decide

theorem checkPosition_ne : ∀ l < 7, ∀ k < l, checkPosition k ≠ checkPosition l := by decide

theorem checkPosition_le : ∀ k < 8, checkPosition k ≤ 46 := by decide

theorem checkPosition_not_mem : ∀ k < 7, checkPosition k ∉ headerPositions := by decide

/-- A bit of the check byte in error. -/
theorem getLsbD_flipCheck (check : Byte) (k j : Nat) (byte : j < 8) :
    (flipCheck check k).getLsbD j = (check.getLsbD j ^^ decide (j = k)) := by
  have one : (1#8 <<< k).getLsbD j = decide (j = k) := by
    rw [BitVec.getLsbD_shiftLeft, BitVec.getLsbD_one]
    by_cases same : j = k
    · subst same
      simp [byte]
    · by_cases below : j < k
      · simp [same, below]
      · have beyond : ¬j - k = 0 := by omega
        simp [same, beyond]
  rw [flipCheck, BitVec.getLsbD_xor, one]

theorem lowBits_flipCheck (n : Nat) (check : Byte) (k : Nat) (byte : n ≤ 8) :
    lowBits n (flipCheck check k) = (lowBits n check).modify k not := by
  refine List.ext_getElem (by simp [lowBits]) fun j inside _ => ?_
  have low : j < n := by simpa [lowBits] using inside
  simp only [lowBits, List.getElem_map, List.getElem_range, List.getElem_modify,
    getLsbD_flipCheck check k j (by omega)]
  by_cases same : k = j
  · simp [same]
  · simp [same, Ne.symm same]

/-- R170: the code sum of what is received. -/
def receivedSum (header : List Bool) (check : Byte) : Nat :=
  codeSum (headerPositions.zip header) ^^^ codeSum (checkPositions.zip (lowBits 6 check))

/-- R170: the parity of what is received, the parity bit included. -/
def receivedOdd (header : List Bool) (check : Byte) : Bool := oddParity header ^^ oddParity (lowBits 7 check)

theorem receivedSum_flipHeader {header : List Bool} (check : Byte) (long : header.length = 40) {i : Nat}
    (inside : i < 40) :
    receivedSum (flipHeader header i) check = receivedSum header check ^^^ headerPositions[i] := by
  rw [receivedSum, flipHeader, codeSum_zip_modify headerPositions header i inside long, receivedSum, Nat.xor_right_comm]

theorem receivedOdd_flipHeader {header : List Bool} (check : Byte) (long : header.length = 40) {i : Nat}
    (inside : i < 40) : receivedOdd (flipHeader header i) check = !receivedOdd header check := by
  rw [receivedOdd, flipHeader, oddParity_modify header i (by omega), receivedOdd, Bool.not_xor]

theorem receivedSum_flipCheck (header : List Bool) (check : Byte) (k : Nat) :
    receivedSum header (flipCheck check k) = receivedSum header check ^^^ checkPosition k := by
  have bits : (lowBits 6 check).length = 6 := by simp [lowBits]
  rw [receivedSum, receivedSum, lowBits_flipCheck 6 check k (by decide), Nat.xor_assoc]
  congr 1
  by_cases coded : k < 6
  · have position : ∀ k (h : k < 6), checkPositions[k] = checkPosition k := by decide
    rw [codeSum_zip_modify checkPositions _ k coded bits, position k coded]
  · rw [List.modify_eq_self (by omega), checkPosition, if_neg coded, Nat.xor_zero]

theorem receivedOdd_flipCheck (header : List Bool) (check : Byte) {k : Nat} (coded : k < 7) :
    receivedOdd header (flipCheck check k) = !receivedOdd header check := by
  rw [receivedOdd, lowBits_flipCheck 7 check k (by decide), oddParity_modify _ k (by simpa [lowBits] using coded),
    receivedOdd, Bool.xor_not]

/-- R170: bit 7 of the check byte is ignored. -/
theorem receivedOdd_flipCheck_seven (header : List Bool) (check : Byte) :
    receivedOdd header (flipCheck check 7) = receivedOdd header check := by
  rw [receivedOdd, lowBits_flipCheck 7 check 7 (by decide), List.modify_eq_self (by simp [lowBits]), receivedOdd]

/-! ### What is sent -/

/-- The bits of a check byte that is built of seven bits. -/
theorem lowBits_ofNat : ∀ b0 b1 b2 b3 b4 b5 b6 : Bool,
    lowBits 7
        (BitVec.ofNat 8 (bitAt b0 0 + bitAt b1 1 + bitAt b2 2 + bitAt b3 3 + bitAt b4 4 + bitAt b5 5 + bitAt b6 6))
      = [b0, b1, b2, b3, b4, b5, b6] := by
  decide

theorem lowBits_six (check : Byte) : lowBits 6 check = (lowBits 7 check).take 6 := by
  simp [lowBits, ← List.map_take, List.take_range]

theorem sentCheckBit_eq (header : List Bool) (k : Nat) :
    sentCheckBit header k = (codeSum (headerPositions.zip header)).testBit k := syndromeBit_eq _ k

theorem mem_headerPositions_lt : ∀ position ∈ headerPositions, position < 64 := by decide

/-- A number of six bits is the code sum of its bits at the check positions. -/
theorem codeSum_checkPositions : ∀ n < 64,
    codeSum (checkPositions.zip [n.testBit 0, n.testBit 1, n.testBit 2, n.testBit 3, n.testBit 4, n.testBit 5])
      = n := by
  decide

theorem lowBits_sent (header : List Bool) :
    lowBits 7 (sentCheckByte header) =
      [0, 1, 2, 3, 4, 5].map (sentCheckBit header)
        ++ [oddParity (header ++ [0, 1, 2, 3, 4, 5].map (sentCheckBit header))] := lowBits_ofNat ..

/-- R170: the check bits of a header as sent make the code sum 0. -/
theorem receivedSum_sent (header : List Bool) : receivedSum header (sentCheckByte header) = 0 := by
  have small : codeSum (headerPositions.zip header) < 64 :=
    codeSum_lt _ fun pb mem => mem_headerPositions_lt _ (List.of_mem_zip mem).1
  have checks := codeSum_checkPositions _ small
  simp only [← sentCheckBit_eq] at checks
  rw [receivedSum, lowBits_six, lowBits_sent]
  exact Nat.xor_eq_zero_iff.mpr checks.symm

/-- R169: the parity bit of a header as sent makes the parity even. -/
theorem receivedOdd_sent (header : List Bool) : receivedOdd header (sentCheckByte header) = false := by
  rw [receivedOdd, lowBits_sent]
  simp only [oddParity_append, oddParity_cons, oddParity_nil, Bool.xor_false]
  rw [← Bool.xor_assoc, Bool.xor_self]

/-! ### The header check -/

theorem checkHeader_eq {header : List Bool} (check : Byte) (long : header.length = 40) :
    checkHeader header check =
      if receivedSum header check = 0 then
        (if receivedOdd header check then .corrected header else .clean header)
      else if receivedOdd header check ∧ receivedSum header check ≤ 46 then
        .corrected (invertAt (receivedSum header check) header)
      else .uncorrectable := by
  have coded : codedBits header check = headerPositions.zip header ++ checkPositions.zip (lowBits 6 check) := rfl
  have positions : ∀ pb ∈ codedBits header check, pb.1 < 64 := by
    intro pb mem
    rw [coded, List.mem_append] at mem
    rcases mem with mem | mem
    · exact mem_headerPositions_lt _ (List.of_mem_zip mem).1
    · have all : ∀ position ∈ checkPositions, position < 64 := by decide
      exact all _ (List.of_mem_zip mem).1
  have sum : syndrome (codedBits header check) = receivedSum header check := by
    rw [syndrome_eq _ positions, coded, codeSum_append]
    rfl
  have bits : (codedBits header check).map (·.2) = header ++ lowBits 6 check := by
    rw [coded, List.map_append]
    congr 1
    · exact List.map_snd_zip (by rw [long]; decide)
  have parity : parityWrong (codedBits header check) check = receivedOdd header check := by
    have seven : lowBits 7 check = lowBits 6 check ++ [check.getLsbD 6] := rfl
    rw [parityWrong, bits, receivedOdd, seven]
    simp only [oddParity_cons, oddParity_append, oddParity_nil, Bool.xor_false]
    rw [Bool.xor_comm, Bool.xor_assoc]
  simp only [checkHeader, sum, parity]

/-- R170: inverting the bit at a header bit's position takes back an error of that bit. -/
theorem invertAt_flipHeader {header : List Bool} (long : header.length = 40) {i : Nat} (inside : i < 40) :
    invertAt headerPositions[i] (flipHeader header i) = header := by
  have places : headerPositions.length = 40 := rfl
  refine List.ext_getElem (by simp [invertAt, flipHeader, long, places]) fun j there _ => ?_
  have same_place : headerPositions[j]'(by simp_all [invertAt]) = headerPositions[i] ↔ j = i :=
    List.Nodup.getElem_inj_iff headerPositions_nodup
  simp only [invertAt, List.getElem_map, List.getElem_zip, same_place, flipHeader, List.getElem_modify]
  by_cases same : j = i
  · simp [same]
  · simp [same, Ne.symm same]

/-- R170: a position that holds no header bit leaves the header. -/
theorem invertAt_of_not_mem {header : List Bool} (long : header.length = 40) {position : Nat}
    (not_mem : position ∉ headerPositions) : invertAt position header = header := by
  have kept : (headerPositions.zip header).map (fun pb => if pb.1 = position then !pb.2 else pb.2)
      = (headerPositions.zip header).map (·.2) := List.map_congr_left fun pb mem =>
    if_neg fun (same : pb.1 = position) => not_mem (same ▸ (List.of_mem_zip mem).1)
  exact kept.trans (List.map_snd_zip (by rw [long]; decide))

end Sys2Proof.Machine

open Sys2Proof Sys2Proof.Machine

/-- Settles O16: a header as sent has code sum 0 and even parity; each error adds its position and changes the
parity. -/
theorem headerCodeCorrectsOneAndDetectsTwo : Obligations.HeaderCodeCorrectsOneAndDetectsTwo := by
  intro header long check
  have sum : receivedSum header check = 0 := receivedSum_sent header
  have even : receivedOdd header check = false := receivedOdd_sent header
  have long' : ∀ i, (flipHeader header i).length = 40 := fun i => by simp [flipHeader, long]
  refine ⟨?clean, ?seven, fun i inside => ?header, fun k coded => ?check, fun i j less inside => ?headers,
    fun i k inside coded => ?both, fun k l less coded => ?checks⟩
  case clean => simp [checkHeader_eq check long, sum, even]
  case seven =>
    simp [checkHeader_eq _ long, receivedSum_flipCheck, receivedOdd_flipCheck_seven, checkPosition, sum, even]
  case header =>
    obtain ⟨nonzero, low⟩ := headerPositions_bounds i inside
    rw [checkHeader_eq _ (long' i), receivedSum_flipHeader _ long inside, receivedOdd_flipHeader _ long inside, sum,
      even, Nat.zero_xor, if_neg nonzero, if_pos ⟨rfl, low⟩, invertAt_flipHeader long inside]
  case check =>
    rw [checkHeader_eq _ long, receivedSum_flipCheck, receivedOdd_flipCheck _ _ coded, sum, even, Nat.zero_xor]
    split
    · rfl
    · rw [if_pos ⟨rfl, checkPosition_le k (by omega)⟩, invertAt_of_not_mem long (checkPosition_not_mem k coded)]
  case headers =>
    have first : i < 40 := by omega
    have differ : headerPositions[i] ≠ headerPositions[j] := fun same =>
      less.ne ((List.Nodup.getElem_inj_iff headerPositions_nodup).mp same)
    rw [checkHeader_eq _ (by simp [flipHeader, long]), receivedSum_flipHeader _ (long' i) inside,
      receivedSum_flipHeader _ long first, receivedOdd_flipHeader _ (long' i) inside,
      receivedOdd_flipHeader _ long first, sum, even, Nat.zero_xor, if_neg (mt Nat.xor_eq_zero_iff.mp differ)]
    rfl
  case both =>
    have differ := headerPositions_ne_checkPosition i inside k coded
    rw [checkHeader_eq _ (long' i), receivedSum_flipCheck, receivedSum_flipHeader _ long inside,
      receivedOdd_flipCheck _ _ coded, receivedOdd_flipHeader _ long inside, sum, even, Nat.zero_xor,
      if_neg (mt Nat.xor_eq_zero_iff.mp differ)]
    rfl
  case checks =>
    have differ := checkPosition_ne l coded k less
    rw [checkHeader_eq _ long, receivedSum_flipCheck, receivedSum_flipCheck, receivedOdd_flipCheck _ _ coded,
      receivedOdd_flipCheck _ _ (by omega), sum, even, Nat.zero_xor, if_neg (mt Nat.xor_eq_zero_iff.mp differ)]
    rfl
end

section
/-! SUPPORT. The deadline of a slot: the clock it is reached at, and the closures that follow it. -/

namespace Sys2Proof.Machine

/-- R9: the present time is brought to a deadline (log 4). -/
theorem State.reachTime_eq (s : State) (t : Nat) : s.reachTime t = s.timeReached t := by
  have now : s.now + (t - s.now) = max s.now t := by omega
  simp only [State.reachTime, State.letPass, now]
  rfl

/-- The closure of a line does not look at the slots that are open before it. -/
theorem State.lineClosed_of_slots {s t : State} {side : Side} {slot : Slot} {slots rest : List Slot}
    (closed : State.lineClosed { s with asm := s.asm.set side { s.asm.get side with slots := slots } } t side slot
      rest) :
    s.lineClosed t side slot rest := by
  obtain ⟨left, headWait, others, fields⟩ := closed
  refine ⟨left, ?_, fun other ne => (others other ne).trans (PerSide.get_set_ne _ _ ne), ?_⟩
  · cases side <;> exact headWait
  · cases side <;> exact fields

/-- R41: the deadline of a GATHERING slot makes it READY, and then the READY slots close that no older slot holds
back. -/
theorem State.waitExpiry_gathering {s : State} {side : Side} {before : List Slot} {slot : Slot} {after : List Slot}
    (slots : (s.asm.get side).slots = before ++ slot :: after) (others : ∀ x ∈ before, x.line ≠ slot.line)
    (gathering : slot.ready = false) :
    s.waitExpiry side slot.line
      = State.closeReady
          { s.timeReached slot.deadline with
            asm := s.asm.set side { s.asm.get side with slots := before ++ { slot with ready := true } :: after } }
          side := by
  have readied : updateSlot slot.line (fun x => { x with ready := true }) (s.asm.get side).slots
      = before ++ { slot with ready := true } :: after := by
    rw [slots, updateSlot_append _ after others rfl]
  rw [State.waitExpiry, State.slotOf_append slots others rfl]
  simp only [gathering, Bool.false_eq_true, if_false, State.reachTime_eq, State.modAsm]
  rw [← readied]
  rfl

end Sys2Proof.Machine

open Sys2Proof Sys2Proof.Machine

/-- Settles O22: the slot becomes READY, and the cascade closes nothing behind a GATHERING slot and the READY slots at
the head of the order otherwise. -/
theorem waitExpiryReadiesSlot : Obligations.WaitExpiryReadiesSlot := by
  intro s side line before slot after a slots opened others own
  subst own
  let u : State := { s.timeReached slot.deadline with asm := s.asm.set side { a with slots := slots } }
  have slots_u : (u.asm.get side).slots = slots := by simp only [u, PerSide.get_set_same]
  refine ⟨fun ready => ?_, fun gathering held => ?_, fun gathering oldest_ready => ?_⟩
  · change Host.Outcome.next (s.waitExpiry side slot.line) = _
    rw [State.waitExpiry, State.slotOf_append opened others rfl]
    exact congrArg _ (if_pos ready)
  · refine congrArg Host.Outcome.next ((State.waitExpiry_gathering opened others gathering).trans ?_)
    exact State.closeReady_gathering (s := u) (by rwa [slots_u])
  · refine ⟨_, congrArg Host.Outcome.next (State.waitExpiry_gathering opened others gathering), ?_⟩
    have lines := u.closeReady_linesClosed side
    rw [slots_u] at lines
    cases opening : slots with
    | nil => simp [slots] at opening
    | cons oldest more =>
      have ready : oldest.ready = true := oldest_ready oldest (by rw [opening]; rfl)
      simp only [opening, List.takeWhile_cons, ready, if_true] at lines ⊢
      obtain ⟨v, first, later⟩ := lines
      exact ⟨v, State.lineClosed_of_slots first, later⟩
end

section
/-! SUPPORT. The tables whose capacity and rest a step keeps, what may happen to them in a run and outside runs, and
what leaves them as they were. -/

namespace Sys2Proof.Machine

/-- The part of a side engine that R71, R75, R86, R91, R103, R119 and R125 bound: the line in flight, the held commands,
and what stands between lines. -/
structure EngineTables where
  inFlight : Option LineEntry
  held : List HeldCommand
  blobs : List Blob
  streaks : List StreakEntry
  bins : List (Nat × Bin)
  teach : Option Teach

/-- The tables of an engine. -/
def Engine.tables (e : Engine) : EngineTables where
  inFlight := e.inFlight
  held := e.held
  blobs := e.blobs
  streaks := e.streaks
  bins := e.bins
  teach := e.teach

/-- The part of the state whose capacity and rest a step keeps; of the arrival lists and of the schedule only how many
entries they hold. -/
structure Tables where
  runState : RunState
  slots : Side → List Slot
  queue : Side → List LineEntry
  arrivals : Side → Nat
  engines : Side → EngineTables
  orders : Nat

/-- The tables of a state. -/
def State.tables (s : State) : Tables where
  runState := s.runState
  slots := fun side => (s.asm.get side).slots
  queue := fun side => (s.asm.get side).queue
  arrivals := fun side => (s.lanes.arrivals.get side).length
  engines := fun side => (s.eng.get side).tables
  orders := s.marks.orders.length

/-! ### Capacity and rest, of the tables -/

/-- R91, R119: the tables of an engine are within their capacity. -/
def EngineTables.Fits (x : EngineTables) : Prop := x.blobs.length ≤ 128 ∧ x.streaks.length ≤ 64

/-- R75: an engine holds commands only while a line is in flight. -/
def EngineTables.HoldsInFlight (x : EngineTables) : Prop := x.inFlight = none → x.held = []

/-- R71, R86, R103, R125: an engine outside runs. -/
def EngineTables.Empty (x : EngineTables) : Prop :=
  x.inFlight = none ∧ x.blobs = [] ∧ x.streaks = [] ∧ x.bins = [] ∧ x.teach = none

/-- R40, R45, R66, R91, R119, R143, of the tables. -/
def Tables.Within (v : Tables) : Prop :=
  (∀ side : Side,
      (v.slots side).length ≤ 4 ∧ (v.queue side).length ≤ 4 ∧ v.arrivals side ≤ 4 ∧ (v.engines side).Fits)
    ∧ v.orders ≤ 64

/-- R51, R71, R86, R103, R125: a side outside runs. -/
def Tables.EmptyAt (v : Tables) (side : Side) : Prop :=
  v.slots side = [] ∧ v.queue side = [] ∧ (v.engines side).Empty

/-- R163: the run state is none of a run. -/
def Tables.Outside (v : Tables) : Prop := v.runState = .init ∨ v.runState = .standby

/-- R51, R71, R75, R86, R103, R125, of the tables. -/
def Tables.Rests (v : Tables) : Prop :=
  ∀ side : Side, (v.engines side).HoldsInFlight ∧ (v.Outside → v.EmptyAt side)

theorem State.withinCapacity_iff (s : State) : s.withinCapacity ↔ s.tables.Within := Iff.rfl

theorem State.restsOutsideRuns_iff (s : State) : s.restsOutsideRuns ↔ s.tables.Rests := Iff.rfl

/-! ### What may happen to the tables -/

/-- What the work of a line may do to the tables of an engine: they stay within capacity, and no command is held without
a line in flight. -/
structure EngineTables.Works (x y : EngineTables) : Prop where
  fits : x.Fits → y.Fits
  holds : x.HoldsInFlight → y.HoldsInFlight

/-- What the work of a run may do to the tables. -/
structure Tables.Works (v w : Tables) : Prop where
  runState : w.runState = v.runState
  within : v.Within → w.Within
  holds : ∀ side, (v.engines side).HoldsInFlight → (w.engines side).HoldsInFlight

/-- What may happen to the tables in a run and outside: work that leaves an empty side empty. -/
structure Tables.Calm (v w : Tables) : Prop extends v.Works w where
  empty : ∀ side, v.EmptyAt side → w.EmptyAt side

/-- What a command keeps of the tables. -/
structure Tables.Keeps (v w : Tables) : Prop where
  within : v.Within → w.Within
  rests : v.Rests → w.Rests

theorem EngineTables.Works.refl (x : EngineTables) : x.Works x := ⟨id, id⟩

theorem EngineTables.Works.trans {x y z : EngineTables} (h : x.Works y) (k : y.Works z) : x.Works z :=
  ⟨k.fits ∘ h.fits, k.holds ∘ h.holds⟩

theorem Tables.Works.refl (v : Tables) : v.Works v := ⟨rfl, id, fun _ => id⟩

theorem Tables.Works.of_eq {v w : Tables} (same : w = v) : v.Works w := same ▸ .refl v

theorem Tables.Works.trans {u v w : Tables} (h : u.Works v) (k : v.Works w) : u.Works w :=
  ⟨k.runState.trans h.runState, k.within ∘ h.within, fun side => k.holds side ∘ h.holds side⟩

theorem Tables.Calm.refl (v : Tables) : v.Calm v := ⟨.refl v, fun _ => id⟩

theorem Tables.Calm.of_eq {v w : Tables} (same : w = v) : v.Calm w := same ▸ .refl v

theorem Tables.Calm.trans {u v w : Tables} (h : u.Calm v) (k : v.Calm w) : u.Calm w :=
  ⟨h.toWorks.trans k.toWorks, fun side => k.empty side ∘ h.empty side⟩

theorem Tables.Works.outside {v w : Tables} (h : v.Works w) : w.Outside ↔ v.Outside := by
  rw [Tables.Outside, h.runState, Tables.Outside]

theorem Tables.Calm.keeps {v w : Tables} (h : v.Calm w) : v.Keeps w := by
  refine ⟨h.within, fun rests side => ?_⟩
  obtain ⟨holds, empty⟩ := rests side
  exact ⟨h.holds side holds, fun outside => h.empty side (empty (h.outside.mp outside))⟩

theorem Tables.Keeps.of_eq {v w : Tables} (same : w = v) : v.Keeps w := (Tables.Calm.of_eq same).keeps

/-- The work of a run keeps the tables, where there is a run if the tables are as they are outside runs. -/
theorem Tables.Works.keeps {v w : Tables} (h : v.Works w) (runs : v.Rests → ¬v.Outside) : v.Keeps w :=
  ⟨h.within, fun rests side =>
    ⟨h.holds side (rests side).1, fun outside => absurd (h.outside.mp outside) (runs rests)⟩⟩

/-- The work of a run keeps the tables, if a run state of a run follows. -/
theorem Tables.Works.keeps_begun {v w : Tables} (h : v.Works w) {new : RunState}
    (runs : ¬(new = .init ∨ new = .standby)) :
    v.Keeps { w with runState := new } :=
  ⟨h.within, fun rests side => ⟨h.holds side (rests side).1, fun outside => absurd outside runs⟩⟩

/-- Tables that have become empty keep capacity and rest. -/
theorem Tables.Keeps.of_empty {v w : Tables} (sides : ∀ side, w.EmptyAt side)
    (held : ∀ side, (w.engines side).held = []) (arrivals : ∀ side, w.arrivals side = 0) (orders : w.orders = 0) :
    v.Keeps w := by
  refine ⟨fun _ => ⟨fun side => ?_, by simp [orders]⟩, fun _ side => ⟨fun _ => held side, fun _ => sides side⟩⟩
  obtain ⟨slots, queue, -, blobs, streaks, -⟩ := sides side
  simp [slots, queue, arrivals, EngineTables.Fits, blobs, streaks]

/-- A change of run state keeps the tables, if it begins no rest or ends one. -/
theorem Tables.Keeps.of_runState {v : Tables} (new : RunState)
    (rest : new = .init ∨ new = .standby → v.Outside) : v.Keeps { v with runState := new } :=
  ⟨id, fun rests side => ⟨(rests side).1, fun outside => (rests side).2 (rest outside)⟩⟩

/-- The number of orders may change within its bound. -/
theorem Tables.Calm.of_orders {v : Tables} {n : Nat} (bound : v.orders ≤ 64 → n ≤ 64) : v.Calm { v with orders := n } :=
  ⟨⟨rfl, fun ⟨sides, orders⟩ => ⟨sides, bound orders⟩, fun _ => id⟩, fun _ => id⟩

/-- The numbers of arrivals may change within their bound. -/
theorem Tables.Calm.of_arrivals {v : Tables} {n : Side → Nat} (bound : ∀ side, v.arrivals side ≤ 4 → n side ≤ 4) :
    v.Calm { v with arrivals := n } := by
  refine ⟨⟨rfl, fun ⟨sides, orders⟩ => ⟨fun side => ?_, orders⟩, fun _ => id⟩, fun _ => id⟩
  obtain ⟨slots, queue, arrivals, fits⟩ := sides side
  exact ⟨slots, queue, bound side arrivals, fits⟩

/-- The tables with those of one engine replaced. -/
def Tables.setEngine (v : Tables) (side : Side) (x : EngineTables) : Tables :=
  { v with engines := fun other => if other = side then x else v.engines other }

theorem Tables.setEngine_self (v : Tables) (side : Side) : v.setEngine side (v.engines side) = v := by
  have same : (fun other => if other = side then v.engines side else v.engines other) = v.engines := by
    funext other
    split
    case isTrue here => rw [here]
    case isFalse => rfl
  rw [Tables.setEngine, same]

/-- Work of one engine is work. -/
theorem Tables.Works.of_engine {v : Tables} {side : Side} {x : EngineTables} (h : (v.engines side).Works x) :
    v.Works (v.setEngine side x) := by
  refine ⟨rfl, fun ⟨sides, orders⟩ => ⟨fun other => ?_, orders⟩, fun other holds => ?_⟩
  · obtain ⟨slots, queue, arrivals, fits⟩ := sides other
    refine ⟨slots, queue, arrivals, ?_⟩
    simp only [Tables.setEngine]
    split
    case isTrue here => exact h.fits (here ▸ fits)
    case isFalse => exact fits
  · simp only [Tables.setEngine]
    split
    case isTrue here => exact h.holds (here ▸ holds)
    case isFalse => exact holds

theorem Tables.Calm.of_engine {v : Tables} {side : Side} {x : EngineTables} (h : (v.engines side).Works x)
    (empty : (v.engines side).Empty → x.Empty) : v.Calm (v.setEngine side x) := by
  refine ⟨.of_engine h, fun other ⟨slots, queue, engine⟩ => ⟨slots, queue, ?_⟩⟩
  simp only [Tables.setEngine]
  split
  case isTrue here => exact empty (here ▸ engine)
  case isFalse => exact engine

/-! ### What leaves the tables as they are -/

section
variable (s : State)

@[simp] theorem State.tables_modPos (f : PositionUnit → PositionUnit) : (s.modPos f).tables = s.tables := rfl
@[simp] theorem State.tables_modHead (h : HeadId) (f : Head → Head) : (s.modHead h f).tables = s.tables := rfl
@[simp] theorem State.tables_modStore (f : Store → Store) : (s.modStore f).tables = s.tables := rfl
@[simp] theorem State.tables_modPort (p : Port) (f : PortState → PortState) : (s.modPort p f).tables = s.tables := rfl
@[simp] theorem State.tables_modReading (p : Port) (f : Reading → Reading) : (s.modReading p f).tables = s.tables := rfl
@[simp] theorem State.tables_offer (w : Writer) (d : Draft) (flag : Option Bool) :
    (s.offer w d flag).tables = s.tables := rfl
@[simp] theorem State.tables_offerAll (w : Writer) (made : List Made) : (s.offerAll w made).tables = s.tables := by
  rw [State.offerAll_eq]
  rfl
@[simp] theorem State.tables_inStep (step : EventStep) (f : State → State) :
    (s.inStep step f).tables = (f s).tables := rfl
@[simp] theorem State.tables_noteTransfer (p : Port) : (s.noteTransfer p).tables = s.tables := rfl
@[simp] theorem State.tables_refuse (p : Port) (code : ResponseCode) : (s.refuse p code).tables = s.tables := rfl
@[simp] theorem State.tables_answerOk (p : Port) : (s.answerOk p).tables = s.tables := rfl
@[simp] theorem State.tables_raiseStoreGap (p : Port) : (s.raiseStoreGap p).tables = s.tables := rfl

theorem State.tables_setOrders (orders : List Order) :
    (s.setOrders orders).tables = { s.tables with orders := orders.length } := rfl

/-- What every item of a list leaves as it is, the list leaves as it is. -/
theorem State.tables_foldl {α : Type} (f : State → α → State) (kept : ∀ s x, (f s x).tables = s.tables) (l : List α) :
    (l.foldl f s).tables = s.tables := by
  induction l generalizing s with
  | nil => rfl
  | cons x rest ih => rw [List.foldl_cons, ih, kept]

theorem State.tables_atEachPort (f : State → Port → State) (kept : ∀ s p, (f s p).tables = s.tables) :
    (s.atEachPort f).tables = s.tables := by
  simp only [State.atEachPort, kept]

@[simp] theorem State.tables_raiseRunChange : s.raiseRunChange.tables = s.tables :=
  s.tables_atEachPort _ fun _ _ => State.tables_modPort ..
@[simp] theorem State.tables_raiseHeadChange : s.raiseHeadChange.tables = s.tables :=
  s.tables_atEachPort _ fun _ _ => State.tables_modPort ..
@[simp] theorem State.tables_raiseMarkTrouble : s.raiseMarkTrouble.tables = s.tables :=
  s.tables_atEachPort _ fun _ _ => State.tables_modPort ..
@[simp] theorem State.tables_markTroubleRecord (side : Option Side) (lane : Option LaneId) (position : Position)
    (content : Content) : (s.markTroubleRecord side lane position content).tables = s.tables := by
  rw [State.markTroubleRecord, State.tables_offer, State.tables_raiseMarkTrouble]

/-- R163: a change of run state changes nothing else of the tables. -/
theorem State.tables_changeRunState (new : RunState) (port : Option Port) :
    (s.changeRunState new port).tables = { s.tables with runState := new } := by
  rw [State.changeRunState, State.tables_raiseRunChange]
  rfl

/-- A change of an assembler that leaves its slots and its queue. -/
theorem State.tables_modAsm (side : Side) (f : Assembler → Assembler) (slots : ∀ a, (f a).slots = a.slots)
    (queue : ∀ a, (f a).queue = a.queue) : (s.modAsm side f).tables = s.tables := by
  have same : ∀ other, ((s.modAsm side f).asm.get other).slots = (s.asm.get other).slots
      ∧ ((s.modAsm side f).asm.get other).queue = (s.asm.get other).queue := fun other => by
    rw [State.modAsm_asm, PerSide.get_set]
    split
    case isTrue here => rw [slots, queue, here]; exact ⟨rfl, rfl⟩
    case isFalse => exact ⟨rfl, rfl⟩
  exact congrArg₂ (fun x y => { s.tables with slots := x, queue := y }) (funext fun other => (same other).1)
    (funext fun other => (same other).2)

/-- A change of an engine changes its tables alone. -/
theorem State.tables_modEng (side : Side) (f : Engine → Engine) :
    (s.modEng side f).tables = s.tables.setEngine side (f (s.eng.get side)).tables := by
  have engines : ∀ other, ((s.modEng side f).eng.get other).tables
      = if other = side then (f (s.eng.get side)).tables else (s.eng.get other).tables := fun other => by
    rw [State.modEng_eng, PerSide.get_set, apply_ite Engine.tables]
  exact congrArg (fun x => { s.tables with engines := x }) (funext engines)

theorem State.tables_modEng_of_eq (side : Side) (f : Engine → Engine) (kept : ∀ e, (f e).tables = e.tables) :
    (s.modEng side f).tables = s.tables := by
  rw [State.tables_modEng, kept]
  exact s.tables.setEngine_self side

theorem State.works_modEng (side : Side) (f : Engine → Engine)
    (works : (s.eng.get side).tables.Works (f (s.eng.get side)).tables) : s.tables.Works (s.modEng side f).tables := by
  rw [State.tables_modEng]
  exact .of_engine works

theorem State.calm_modEng (side : Side) (f : Engine → Engine)
    (works : (s.eng.get side).tables.Works (f (s.eng.get side)).tables)
    (empty : (s.eng.get side).tables.Empty → (f (s.eng.get side)).tables.Empty) :
    s.tables.Calm (s.modEng side f).tables := by
  rw [State.tables_modEng]
  exact .of_engine works empty

/-! ### Heads, coverage runs and the record store -/

@[simp] theorem State.tables_setMisses (h : HeadId) (n : Nat) : (s.setMisses h n).tables = s.tables := rfl

@[simp] theorem State.tables_setHeadState (h : HeadId) (new : HeadState) (cause : HeadCause) :
    (s.setHeadState h new cause).tables = s.tables := by
  simp only [State.setHeadState]
  split
  · rfl
  · rw [State.tables_raiseHeadChange, State.tables_offer, State.tables_modHead]

@[simp] theorem State.tables_count (h : HeadId) (f : HeadCounters → HeadCounters) :
    (s.count h f).tables = s.tables := rfl

@[simp] theorem State.tables_applyEnable (h : HeadId) (enabled : Bool) :
    (s.applyEnable h enabled).tables = s.tables := by
  simp only [State.applyEnable_eq, State.tables_setHeadState, State.tables_setMisses]

@[simp] theorem State.tables_setHead (p : Port) (h : HeadId) (b : SetHeadBody) :
    (s.setHead p h b).tables = s.tables := by
  unfold State.setHead
  split
  · rfl
  · split
    · rfl
    · split_ifs <;> simp

@[simp] theorem State.tables_startHead (h : HeadId) : (s.startHead h).tables = s.tables := by
  unfold State.startHead
  split <;> simp

@[simp] theorem State.tables_closeSkipped : s.closeSkipped.tables = s.tables := by
  unfold State.closeSkipped
  split <;> rfl

@[simp] theorem State.tables_closeDropRun (side : Side) : (s.closeDropRun side).tables = s.tables := by
  unfold State.closeDropRun
  split
  · rfl
  · rw [State.tables_offer]
    exact s.tables_modAsm side _ (fun _ => rfl) fun _ => rfl

@[simp] theorem State.tables_closeBlindRun (side : Side) (h : HeadId) :
    (s.closeBlindRun side h).tables = s.tables := by
  unfold State.closeBlindRun
  split
  · rfl
  · rw [State.tables_offer]
    exact s.tables_modAsm side _ (fun _ => rfl) fun _ => rfl

@[simp] theorem State.tables_closeCoverage (side : Side) : (s.closeCoverage side).tables = s.tables :=
  (State.tables_foldl _ _ (fun s h => s.tables_closeBlindRun side h) _).trans (s.tables_closeDropRun side)

@[simp] theorem State.tables_setPending (p : Port) (n : Nat) : (s.setPending p n).tables = s.tables := rfl

@[simp] theorem State.tables_evictFrom (x : Record) (p : Port) : (s.evictFrom x p).tables = s.tables := by
  simp only [State.evictFrom]
  split_ifs <;> simp

@[simp] theorem State.tables_evictIfFull : s.evictIfFull.tables = s.tables := by
  unfold State.evictIfFull
  split
  · rfl
  · split
    · rfl
    · exact State.tables_atEachPort _ _ fun s p => s.tables_evictFrom _ p

@[simp] theorem State.tables_countAppended (x : Record) (p : Port) : (s.countAppended x p).tables = s.tables := by
  unfold State.countAppended
  split <;> simp

@[simp] theorem State.tables_takeFront (w : Writer) : (s.takeFront w).tables = s.tables := by
  unfold State.takeFront
  split
  · rfl
  · split
    · exact s.tables_modEng_of_eq _ _ fun _ => rfl
    · rfl

@[simp] theorem State.tables_setFilter (p : Port) (b : SetFilterBody) : (s.setFilter p b).tables = s.tables := by
  simp only [State.setFilter]
  split <;> simp

@[simp] theorem State.tables_fetch (p : Port) (n : Nat) : (s.fetch p n).tables = s.tables := by
  unfold State.fetch
  split
  · rfl
  · split <;> rfl

/-! ### Orders (R143, R146 to R150) -/

@[simp] theorem State.tables_fire (o : Order) : (s.fire o).tables = s.tables := by
  simp only [State.fire]
  split <;> rfl

/-- R148: orders that fire leave the schedule. -/
theorem State.calm_fireAt (web : Position) : s.tables.Calm (s.fireAt web).tables := by
  rw [State.fireAt, State.tables_foldl _ _ State.tables_fire, State.tables_setOrders]
  exact .of_orders fun bound => (List.length_filter_le _ _).trans bound

/-- R147: a deep-rewind resync empties the schedule. -/
theorem State.calm_loseOrders : s.tables.Calm s.loseOrders.tables := by
  rw [State.loseOrders, State.tables_foldl _ _ fun s o => s.tables_markTroubleRecord .., State.tables_setOrders]
  exact .of_orders fun _ => Nat.zero_le _

theorem mergeInto_length (w : Nat) (c : Candidate) (orders : List Order) :
    (mergeInto w c orders).length = orders.length := by
  have same := congrArg List.length (mergeInto_places w c orders)
  rwa [List.length_map, List.length_map] at same

/-- R146: a candidate is placed in a schedule of fewer than 64 orders alone. -/
theorem State.calm_place (c : Candidate) : s.tables.Calm (s.place c).1.tables := by
  simp only [State.place]
  split_ifs with late joined full
  · exact .of_eq (s.tables_markTroubleRecord ..)
  · rw [State.tables_setOrders, mergeInto_length]
    exact .refl _
  · exact .of_eq (s.tables_markTroubleRecord ..)
  · rw [State.tables_setOrders, (insertOrder_perm _ _ _).length_eq]
    exact .of_orders fun _ => Nat.not_le.mp full

theorem State.calm_considerRecord (r : Record) (flag : Option Bool) :
    s.tables.Calm (s.considerRecord r flag).tables := by
  unfold State.considerRecord
  split
  · exact s.calm_place _
  · exact .refl _

theorem State.calm_append (o : Offer) : s.tables.Calm (s.append o).tables := by
  simp only [State.append]
  refine .trans (.of_eq ?_) (State.calm_considerRecord _ _ _)
  rw [State.tables_atEachPort _ _ fun s p => s.tables_countAppended _ p, State.tables_modStore,
    State.tables_evictIfFull]

theorem State.calm_arbitrate : s.tables.Calm s.arbitrate.tables := by
  unfold State.arbitrate
  split
  · exact .refl _
  · split
    · exact .refl _
    · exact .trans (.of_eq (by simp)) (State.calm_append _ _)

/-! ### The lane map unit (R64 to R67) -/

/-- R66: a splice joins an arrival list that has room. -/
theorem State.calm_offerArrival (side : Side) (x : ArrivalEntry) : s.tables.Calm (s.offerArrival side x).tables := by
  unfold State.offerArrival
  split
  case isFalse => exact .refl _
  case isTrue room =>
    have fewer : (s.lanes.arrivals.get side).length < 4 := of_decide_eq_true room
    refine Tables.Calm.of_arrivals (v := s.tables)
      (n := fun other => ((s.lanes.arrivals.set side (s.lanes.arrivals.get side ++ [x])).get other).length)
      fun other bound => ?_
    rw [PerSide.get_set]
    split
    · rw [List.length_append]
      exact fewer
    · exact bound

/-- R66: a splice is offered to both arrival lists. -/
theorem State.calm_offerArrival_both (x : ArrivalEntry) :
    s.tables.Calm ((s.offerArrival .top x).offerArrival .bottom x).tables :=
  (s.calm_offerArrival .top x).trans (State.calm_offerArrival _ .bottom x)

theorem State.calm_handOnSplice (capture arrival : Position) :
    s.tables.Calm (s.handOnSplice capture arrival).tables := by
  simp only [State.handOnSplice]
  split
  case h_1 w _ =>
    let u := s.modLanes fun l =>
      { l with
        switch :=
          some
            { w with
              attached := some { top := s.arrivalRoom .top, bottom := s.arrivalRoom .bottom }
              position := some arrival } }
    have same : u.tables = s.tables := rfl
    exact (Tables.Calm.of_eq same).trans (u.calm_offerArrival_both _)
  case h_2 => exact s.calm_offerArrival_both _

/-- R61: a cancelled switch leaves the splices in the arrival lists. -/
theorem State.tables_detachAll :
    (s.modLanes fun l =>
      { l with
        switch := none
        arrivals := { top := detachAll l.arrivals.top, bottom := detachAll l.arrivals.bottom } }).tables
      = s.tables := by
  refine congrArg (fun x => { s.tables with arrivals := x }) (funext fun side => ?_)
  cases side <;> exact List.length_map ..

/-- R64: the tables of an engine after a changeover. -/
def EngineTables.changedOver (x : EngineTables) : EngineTables := { x with blobs := [], streaks := [], bins := [] }

theorem EngineTables.works_changedOver (x : EngineTables) : x.Works x.changedOver :=
  ⟨fun _ => ⟨Nat.zero_le _, Nat.zero_le _⟩, id⟩

theorem EngineTables.empty_changedOver {x : EngineTables} (empty : x.Empty) : x.changedOver.Empty := by
  obtain ⟨inFlight, -, -, -, teach⟩ := empty
  exact ⟨inFlight, rfl, rfl, rfl, teach⟩

theorem State.calm_switchSide (side : Side) (w : SwitchRecord) : s.tables.Calm (s.switchSide side w).tables :=
  s.calm_modEng side _ (EngineTables.works_changedOver _) EngineTables.empty_changedOver

theorem State.calm_changeOverAtTake (side : Side) (position : Position) (w : SwitchRecord) :
    s.tables.Calm (s.changeOverAtTake side position w).tables :=
  (s.calm_switchSide side w).trans (.of_eq (State.tables_modEng_of_eq _ _ _ fun _ => rfl))

theorem State.calm_changeOverAtOnce (side : Side) (w : SwitchRecord) :
    s.tables.Calm (s.changeOverAtOnce side w).tables := by
  simp only [State.changeOverAtOnce, State.tables_offerAll]
  exact s.calm_switchSide side w

theorem State.calm_changeOverIf (side : Side) (now : Bool) : s.tables.Calm (s.changeOverIf side now).tables := by
  unfold State.changeOverIf
  split
  · split
    · exact s.calm_changeOverAtOnce side _
    · exact .refl _
  · exact .refl _

@[simp] theorem State.tables_completeSwitch : s.completeSwitch.tables = s.tables := by
  unfold State.completeSwitch
  split
  · split <;> rfl
  · rfl

theorem State.calm_changeOverHeadless : s.tables.Calm s.changeOverHeadless.tables := by
  rw [State.changeOverHeadless, State.tables_completeSwitch]
  exact (s.calm_changeOverIf .top _).trans (State.calm_changeOverIf _ .bottom _)

theorem State.calm_requestSwitch (w : SwitchRecord) : s.tables.Calm (s.requestSwitch w).tables := by
  let u := s.modLanes fun l => { l with switch := some w }
  have same : u.tables = s.tables := rfl
  refine (Tables.Calm.of_eq same).trans ?_
  simp only [State.requestSwitch]
  split
  · rw [State.tables_completeSwitch]
    exact (u.calm_changeOverIf .top true).trans (State.calm_changeOverIf _ .bottom true)
  · exact u.calm_changeOverHeadless

@[simp] theorem State.tables_setLane (p : Port) (bank : Bank) (side : Side) (lane : LaneId) (b : SetLaneBody) :
    (s.setLane p bank side lane b).tables = s.tables := by
  unfold State.setLane
  split_ifs
  · rfl
  · split
    · rfl
    · simp only
      split_ifs <;> rfl

end

end Sys2Proof.Machine
end

section
/-! SUPPORT. What the line operation does to the tables of a run. -/

namespace Sys2Proof.Machine

/-! ### Blobs (R91 to R100) -/

theorem assignRun_length (r : Run) (blobs : List WorkBlob) : (assignRun r blobs).length ≤ blobs.length := by
  induction blobs with
  | nil => exact le_rfl
  | cons x rest ih =>
    rw [assignRun]
    split
    · exact Nat.succ_le_succ (List.length_filter_le ..)
    · exact Nat.succ_le_succ ih

/-- R93, R95: a run opens a blob in a table of fewer than 128 blobs alone. -/
theorem takeRun_length (position : Position) (acc : List WorkBlob × List Run) (r : Run) (fits : acc.1.length ≤ 128) :
    (takeRun position acc r).1.length ≤ 128 := by
  unfold takeRun
  split_ifs with touched room
  · exact (assignRun_length r acc.1).trans fits
  · rw [List.length_append]
    exact room
  · exact fits

theorem foldl_takeRun_length (position : Position) (runs : List Run) (acc : List WorkBlob × List Run)
    (fits : acc.1.length ≤ 128) : (runs.foldl (takeRun position) acc).1.length ≤ 128 := by
  induction runs generalizing acc with
  | nil => exact fits
  | cons r rest ih => exact ih _ (takeRun_length position acc r fits)

/-- R97 to R100: the walk leaves of one blob one at most. -/
theorem walkBlob_length (side : Side) (bank : LaneBank) (recipes : Recipes) (levels : Vector LaneLevel 16)
    (cols : List (Nat × Nat)) (droppedRuns : List Run) (position : Position) (x : WorkBlob) :
    (walkBlob side bank recipes levels cols droppedRuns position x).1.length ≤ 1 := by
  simp only [walkBlob]
  split
  · split <;> simp
  · split_ifs <;> simp

theorem length_flatMap_le {α β : Type} (f : α → List β) (l : List α) (one : ∀ x, (f x).length ≤ 1) :
    (l.flatMap f).length ≤ l.length := by
  induction l with
  | nil => exact le_rfl
  | cons x rest ih =>
    have := one x
    rw [List.flatMap_cons, List.length_append, List.length_cons]
    omega

/-- R91: the blob update and the walk keep the blob table within its capacity. -/
theorem Engine.stageBlobs_works (e : Engine) (side : Side) (position : Position) (bank : LaneBank) (recipes : Recipes)
    (cols : List (Nat × Nat)) (droppedRuns : List Run) :
    e.tables.Works (e.stageBlobs side position bank recipes cols droppedRuns).tables := by
  refine ⟨fun ⟨blobs, streaks⟩ => ⟨?_, streaks⟩, id⟩
  have started : (startUpdate e.blobs).length ≤ 128 := (List.length_map ..).trans_le blobs
  change (List.flatMap _ (List.map _ _)).length ≤ 128
  rw [List.flatMap_map]
  exact (length_flatMap_le _ _ fun x => walkBlob_length ..).trans
    (foldl_takeRun_length position e.runList (startUpdate e.blobs, []) started)

theorem Engine.stagePinholes_works (e : Engine) (side : Side) (position : Position) (bank : LaneBank)
    (recipes : Recipes) (cols : List (Nat × Nat)) :
    e.tables.Works (e.stagePinholes side position bank recipes cols).tables :=
  (e.stageRuns side position bank recipes cols).1.stageBlobs_works side position bank recipes cols _

/-! ### Bins and streaks (R109 to R120) -/

/-- A change of the bins alone. -/
theorem EngineTables.works_bins (x : EngineTables) (bins : List (Nat × Bin)) : x.Works { x with bins := bins } :=
  ⟨id, id⟩

theorem Engine.setBin_works (e : Engine) (j : Nat) (b : Bin) : e.tables.Works (e.setBin j b).tables :=
  e.tables.works_bins _

/-- R115, R116: a candidate takes an entry of a streak table of fewer than 64 entries alone. -/
theorem Engine.confirm_works (e : Engine) (x : BinContext) (b : Bin) : e.tables.Works (e.confirm x b).tables := by
  unfold Engine.confirm
  split
  case isFalse => exact e.setBin_works ..
  case isTrue =>
    split
    case isFalse => exact e.setBin_works ..
    case isTrue room =>
      refine ⟨fun ⟨blobs, _⟩ => ⟨blobs, ?_⟩, id⟩
      change (e.streaks ++ [_]).length ≤ 64
      rw [List.length_append]
      exact room

theorem Engine.quietBin_works (e : Engine) (x : BinContext) (s : Int) : e.tables.Works (e.quietBin x s).tables := by
  unfold Engine.quietBin
  split
  · exact e.setBin_works ..
  · split
    · exact e.confirm_works ..
    · exact e.setBin_works ..

/-- R117, R118: a streak that ends leaves its entry. -/
theorem Engine.streakBin_works (e : Engine) (x : BinContext) (b : Bin) (s : Int) :
    e.tables.Works (e.streakBin x b s).tables := by
  unfold Engine.streakBin
  split
  · simp only
    split <;> exact e.setBin_works ..
  · let ended : Engine :=
      { e.addRecords x.side [e.streakCloseRecord x.side x.bank .ended x.index (some x.lane) b] with
        streaks := e.streaks.filter fun entry => entry.bin ≠ x.index }
    have left : e.tables.Works ended.tables :=
      ⟨fun ⟨blobs, streaks⟩ => ⟨blobs, (List.length_filter_le ..).trans streaks⟩, id⟩
    exact left.trans (ended.quietBin_works x s)

theorem Engine.transition_works (e : Engine) (x : BinContext) (s : Int) :
    e.tables.Works (e.transition x s).tables := by
  simp only [Engine.transition]
  split
  · exact e.quietBin_works x s
  · unfold Engine.candidateBin
    split
    · exact e.confirm_works x _
    · exact e.quietBin_works x s
  · exact e.streakBin_works x _ s

theorem stepBin_works (side : Side) (position : Position) (bank : LaneBank) (recipes : Recipes)
    (cols : List (Nat × Nat)) (e : Engine) (jl : Nat × LaneId) :
    e.tables.Works (stepBin side position bank recipes cols e jl).tables := by
  simp only [stepBin]
  split
  · split
    · exact e.transition_works ..
    · exact .refl _
  · exact .refl _

/-- Work that every item of a list does, the list does. -/
theorem Engine.foldl_works {α : Type} (f : Engine → α → Engine)
    (works : ∀ (e : Engine) x, e.tables.Works (f e x).tables)
    (e : Engine) (l : List α) : e.tables.Works (l.foldl f e).tables := by
  induction l generalizing e with
  | nil => exact .refl _
  | cons x rest ih => exact (works e x).trans (ih (f e x))

theorem Engine.stageStreaks_works (e : Engine) (side : Side) (position : Position) (bank : LaneBank)
    (recipes : Recipes) (cols : List (Nat × Nat)) :
    e.tables.Works (e.stageStreaks side position bank recipes cols).tables :=
  (e.tables.works_bins _).trans
    (Engine.foldl_works _ (stepBin_works side position bank recipes cols) (e.quietUnevaluated bank) _)

/-! ### The line operation (R71 to R74) -/

theorem Engine.tables_stageLevels (e : Engine) (bank : LaneBank) (cols : List (Nat × Nat)) :
    (e.stageLevels bank cols).tables = e.tables := by
  simp only [Engine.tables, Engine.stageLevels]

theorem Engine.inspect_works (e : Engine) (side : Side) (position : Position) (bank : LaneBank) (recipes : Recipes)
    (cols : List (Nat × Byte)) : e.tables.Works (e.inspect side position bank recipes cols).tables := by
  simp only [Engine.inspect]
  rw [← e.tables_stageLevels bank (e.correct cols)]
  exact (Engine.stagePinholes_works _ side position bank recipes _).trans
    (Engine.stageStreaks_works _ side position bank recipes _)

theorem Engine.dropPasses_works (side : Side) (position : Position) (bank : LaneBank) (recipes : Recipes) (n : Nat)
    (e : Engine) : e.tables.Works (e.dropPasses side position bank recipes n).tables := by
  induction n generalizing e with
  | zero => exact .refl _
  | succ n ih => exact (e.inspect_works side position bank recipes []).trans (ih _)

/-- A change of the teach alone. -/
theorem EngineTables.works_teach (x : EngineTables) (teach : Option Teach) : x.Works { x with teach := teach } :=
  ⟨id, id⟩

/-- R83: the end of a teach changes of the tables the teach alone. -/
theorem Engine.tables_finishTeach (e : Engine) (side : Side) (position : Position) (t : Teach) :
    (e.finishTeach side position t).tables = { e.tables with teach := none } := by
  have gains : ∀ (l : List (Nat × TeachColumn)) (e : Engine),
      (l.foldl (fun e c => e.setCalEntry c.1 { (e.calEntry c.1) with gain := taughtGain t.target c.2 }) e).tables
        = e.tables := by
    intro l
    induction l with
    | nil => exact fun _ => rfl
    | cons c rest ih => exact fun e => (ih _).trans rfl
  exact congrArg (fun x : EngineTables => { x with teach := none }) (gains _ e)

theorem Engine.stageTeach_works (e : Engine) (side : Side) (position : Position) (cols : List (Nat × Byte)) :
    e.tables.Works (e.stageTeach side position cols).tables := by
  unfold Engine.stageTeach
  split
  · exact .refl _
  · simp only
    split
    · rw [Engine.tables_finishTeach]
      exact e.tables.works_teach none
    · exact e.tables.works_teach _

theorem Engine.runLine_works (e : Engine) (side : Side) (bank : LaneBank) (recipes : Recipes) (line : LineEntry) :
    e.tables.Works (e.runLine side bank recipes line).tables :=
  ((e.dropPasses_works side line.position bank recipes _).trans
    (Engine.inspect_works _ side line.position bank recipes line.cols)).trans
    (Engine.stageTeach_works _ side line.position line.cols)

section
variable (s : State)

theorem State.calm_abortTeachAtSplice (side : Side) (position : Position) :
    s.tables.Calm (s.abortTeachAtSplice side position).tables := by
  unfold State.abortTeachAtSplice
  split
  · exact .refl _
  · refine s.calm_modEng side _ (EngineTables.works_teach _ none) ?_
    rintro ⟨inFlight, blobs, streaks, bins, -⟩
    exact ⟨inFlight, blobs, streaks, bins, rfl⟩

theorem State.arrivals_abortTeachAtSplice (side : Side) (position : Position) :
    (s.abortTeachAtSplice side position).lanes.arrivals = s.lanes.arrivals := by
  unfold State.abortTeachAtSplice
  split <;> rfl

theorem State.arrivals_serveArrival (side : Side) (position : Position) (x : ArrivalEntry) (rest : List ArrivalEntry) :
    (s.serveArrival side position x rest).lanes.arrivals = s.lanes.arrivals.set side rest := by
  simp only [State.serveArrival, State.arrivals_abortTeachAtSplice]
  split <;> rfl

/-- R67: an arrival entry that is served leaves the others of its list. -/
theorem State.calm_serveArrival (side : Side) (position : Position) (x : ArrivalEntry) (rest : List ArrivalEntry)
    (shorter : rest.length ≤ (s.lanes.arrivals.get side).length) :
    s.tables.Calm (s.serveArrival side position x rest).tables := by
  have removed : s.tables.Calm (s.modLanes fun l => { l with arrivals := l.arrivals.set side rest }).tables := by
    refine Tables.Calm.of_arrivals (v := s.tables)
      (n := fun other => ((s.lanes.arrivals.set side rest).get other).length) fun other bound => ?_
    rw [PerSide.get_set]
    split
    case isTrue here => exact shorter.trans (here ▸ bound)
    case isFalse => exact bound
  have reported : ∀ (u : State) (made : List Made), (u.modEng side (·.addRecords side made)).tables = u.tables :=
    fun u made => u.tables_modEng_of_eq side _ fun _ => rfl
  simp only [State.serveArrival]
  refine .trans ?_ (State.calm_abortTeachAtSplice _ side position)
  split
  · refine .trans ?_ (State.calm_changeOverAtTake _ side position _)
    rw [reported]
    exact removed
  · rw [reported]
    exact removed

theorem State.calm_serveArrivals (side : Side) (position : Position) (l : List ArrivalEntry)
    (shorter : l.length ≤ (s.lanes.arrivals.get side).length) :
    s.tables.Calm (State.serveArrivals side position l s).tables := by
  induction l generalizing s with
  | nil => exact .refl _
  | cons x rest ih =>
    rw [State.serveArrivals]
    split
    · refine (s.calm_serveArrival side position x rest ((Nat.le_succ _).trans shorter)).trans (ih _ ?_)
      rw [State.arrivals_serveArrival, PerSide.get_set_same]
    · exact .refl _

theorem State.calm_stageChangeover (side : Side) (position : Position) :
    s.tables.Calm (s.stageChangeover side position).tables := by
  have served := s.calm_serveArrivals side position (s.lanes.arrivals.get side) le_rfl
  simp only [State.stageChangeover, State.tables_completeSwitch]
  split
  · split
    · exact served.trans (State.calm_changeOverAtTake _ side position _)
    · exact served
  · exact served

theorem State.works_runOperation (side : Side) (line : LineEntry) :
    s.tables.Works (s.runOperation side line).tables := by
  simp only [State.runOperation]
  refine (s.calm_stageChangeover side line.position).toWorks.trans ?_
  refine .trans (.of_eq ?_) (State.works_modEng _ side _ (Engine.runLine_works ..))
  exact State.tables_modEng_of_eq _ side _ fun _ => rfl

/-- A change of one assembler that keeps its slots and its queue within capacity is work. -/
theorem State.works_modAsm (side : Side) (f : Assembler → Assembler)
    (slots : (s.asm.get side).slots.length ≤ 4 → (f (s.asm.get side)).slots.length ≤ 4)
    (queue : (s.asm.get side).queue.length ≤ 4 → (f (s.asm.get side)).queue.length ≤ 4) :
    s.tables.Works (s.modAsm side f).tables := by
  refine ⟨rfl, fun ⟨sides, orders⟩ => ⟨fun other => ?_, orders⟩, fun _ => id⟩
  obtain ⟨open_slots, lines, others⟩ := sides other
  change ((s.modAsm side f).asm.get other).slots.length ≤ 4 ∧ ((s.modAsm side f).asm.get other).queue.length ≤ 4 ∧ _
  rw [State.modAsm_asm, PerSide.get_set]
  split
  case isTrue here => exact ⟨slots (here ▸ open_slots), queue (here ▸ lines), others⟩
  case isFalse => exact ⟨open_slots, lines, others⟩

/-- R71: a line leaves the queue and is in flight. -/
theorem State.works_beginLine (side : Side) (line : LineEntry) (rest : List LineEntry)
    (queue : (s.asm.get side).queue = line :: rest) : s.tables.Works (s.beginLine side line rest).tables := by
  have taken : s.tables.Works (s.modAsm side fun a => { a with queue := rest }).tables :=
    s.works_modAsm side _ id fun bound => by
      rw [queue, List.length_cons] at bound
      exact (Nat.le_succ _).trans bound
  exact taken.trans (State.works_modEng _ side _ ⟨id, nofun⟩)

end

end Sys2Proof.Machine
end

section
/-! SUPPORT. What the assemblers, the engine commands and run control do to the tables. -/

namespace Sys2Proof.Machine

section
variable (s : State)

/-! ### Assemblers (R38 to R45) -/

theorem updateSlot_length (line : LineNo) (f : Slot → Slot) (slots : List Slot) :
    (updateSlot line f slots).length = slots.length := by
  induction slots with
  | nil => rfl
  | cons slot rest ih =>
    rw [updateSlot]
    split
    · rfl
    · rw [List.length_cons, ih, List.length_cons]

/-- What opens and closes slots of one side is work, if these and the queue stay within capacity. -/
theorem State.AssemblyFrame.works {s t : State} (frame : s.AssemblyFrame t) (side : Side)
    (others : ∀ other, other ≠ side → t.asm.get other = s.asm.get other)
    (slots : (s.asm.get side).slots.length ≤ 4 → (t.asm.get side).slots.length ≤ 4)
    (queue : (s.asm.get side).queue.length ≤ 4 → (t.asm.get side).queue.length ≤ 4) : s.tables.Works t.tables := by
  have engines : t.tables.engines = s.tables.engines := congrArg (fun v other => (v.get other).tables) frame.eng
  have arrivals : t.tables.arrivals = s.tables.arrivals :=
    congrArg (fun l : LaneMap => fun other => (l.arrivals.get other).length) frame.lanes
  have orders : t.tables.orders = s.tables.orders := congrArg (fun m : Scheduler => m.orders.length) frame.marks
  refine ⟨frame.runState, fun ⟨sides, bound⟩ => ⟨fun other => ?_, orders ▸ bound⟩, fun other => engines ▸ id⟩
  rw [arrivals, engines]
  obtain ⟨open_slots, lines, rest⟩ := sides other
  by_cases here : other = side
  · subst here
    exact ⟨slots open_slots, queue lines, rest⟩
  · change (t.asm.get other).slots.length ≤ 4 ∧ (t.asm.get other).queue.length ≤ 4 ∧ _
    rw [others other here]
    exact ⟨open_slots, lines, rest⟩

/-- R45, R46: a closed line joins a queue that has room alone. -/
theorem State.closeOldest_queue (side : Side) (bound : (s.asm.get side).queue.length ≤ 4) :
    ((s.closeOldest side).asm.get side).queue.length ≤ 4 := by
  cases slots : (s.asm.get side).slots with
  | nil =>
    have same : s.closeOldest side = s := by simp [State.closeOldest, slots]
    rwa [same]
  | cons slot rest =>
    obtain ⟨-, -, -, -, queued, dropped, -⟩ := s.closeOldest_lineClosed side slot rest slots
    by_cases fits : (s.asm.get side).queue.length < 4
    · obtain ⟨⟨line, queue, -⟩, -⟩ := queued fits
      rw [queue, List.length_append]
      exact fits
    · obtain ⟨queue, -⟩ := dropped fits
      rwa [queue]

theorem State.works_closeOldest (side : Side) : s.tables.Works (s.closeOldest side).tables := by
  refine (s.closeOldest_frame side).works side (fun other ne => s.closeOldest_other ne) (fun bound => ?_)
    (s.closeOldest_queue side)
  rw [State.closeOldest_slots, List.length_tail]
  exact (Nat.sub_le ..).trans bound

theorem State.works_closeReady (side : Side) : s.tables.Works (s.closeReady side).tables :=
  State.cascade_induction side (fun s t => s.tables.Works t.tables) (fun _ => .refl _) (fun _ _ _ => .trans)
    (fun s => s.works_closeOldest side) _ s

theorem State.roomMade_queue (side : Side) (bound : (s.asm.get side).queue.length ≤ 4) :
    ((s.roomMade side).asm.get side).queue.length ≤ 4 := by
  rw [State.roomMade]
  split
  · exact bound
  · exact State.cascade_induction side
      (fun s t => (s.asm.get side).queue.length ≤ 4 → (t.asm.get side).queue.length ≤ 4) (fun _ => id)
      (fun _ _ _ h k => k ∘ h) (fun s => s.closeOldest_queue side) _ _ (s.closeOldest_queue side bound)

/-- R38, R40: a slot opens in an assembler that has made room. -/
theorem State.works_openSlot (side : Side) (line : LineNo) (trigger : Position) :
    s.tables.Works (s.openSlot side line trigger).tables := by
  cases on : s.hasHead side with
  | false =>
    rw [s.openSlot_headless side line trigger on]
    exact .refl _
  | true =>
    refine (s.openSlot_frame side line trigger).works side (fun other ne => s.openSlot_other line trigger ne)
      (s.openSlot_length side line trigger) fun bound => ?_
    rw [s.openSlot_eq side line trigger on, State.modAsm_asm, PerSide.get_set_same]
    exact s.roomMade_queue side bound

theorem State.works_openSlots (line : LineNo) (trigger : Position) :
    s.tables.Works (s.openSlots line trigger).tables :=
  (s.works_openSlot .top line trigger).trans (State.works_openSlot _ .bottom line trigger)

/-- R39, R41, R42: a slot changes, and then the READY slots close that no older slot holds back. -/
theorem State.works_updateSlot (side : Side) (line : LineNo) (f : Slot → Slot) :
    s.tables.Works ((s.modAsm side fun a => { a with slots := updateSlot line f a.slots }).closeReady side).tables :=
  (s.works_modAsm side _ (fun bound => (updateSlot_length ..).trans_le bound) id).trans (State.works_closeReady _ side)

theorem State.works_waitExpiry (side : Side) (line : LineNo) : s.tables.Works (s.waitExpiry side line).tables := by
  unfold State.waitExpiry
  split
  · exact .refl _
  · split
    · exact .refl _
    · exact State.works_updateSlot (s.reachTime _) side line _

/-- R41: a slot is open in a run alone. -/
theorem State.keeps_waitExpiry (side : Side) (line : LineNo) : s.tables.Keeps (s.waitExpiry side line).tables := by
  cases found : s.slotOf side line with
  | none => exact .of_eq (by rw [State.waitExpiry, found])
  | some slot =>
    refine (s.works_waitExpiry side line).keeps fun rests outside => ?_
    obtain ⟨-, empty⟩ := rests side
    obtain ⟨slots, -⟩ := empty outside
    have none_open : (s.asm.get side).slots = [] := slots
    simp [State.slotOf, none_open] at found

/-! ### Packets (R20 to R26, R39) -/

theorem State.works_accept (h : HeadId) (line : LineNo) (c : Contribution) :
    s.tables.Works (s.accept h line c).tables := by
  rw [State.accept_eq]
  refine .trans (.of_eq ?_) (State.works_updateSlot _ _ line _)
  split <;> simp

theorem State.works_takeHeader (h : HeadId) (hd : PacketHeader) (f : Nat → Contribution) :
    s.tables.Works (s.takeHeader h hd f).tables := by
  unfold State.takeHeader
  split
  · exact .refl _
  · split
    · exact s.works_accept ..
    all_goals exact .refl _

theorem State.works_takePacket (h : HeadId) (bytes : List Byte) (f : Nat → List Byte → Contribution) :
    s.tables.Works (s.takePacket h bytes f).tables := by
  unfold State.takePacket
  split
  · split
    · split
      · exact s.works_takeHeader ..
      · exact State.works_takeHeader (s.count h _) ..
      · exact .refl _
    · exact .refl _
  · exact .refl _

/-- R23: packets are examined in a run alone. -/
theorem State.keeps_takePacket (h : HeadId) (bytes : List Byte) (f : Nat → List Byte → Contribution) :
    s.tables.Keeps (s.takePacket h bytes f).tables := by
  cases seen : s.examines h with
  | false =>
    rw [s.takePacket_unseen h bytes f seen]
    exact .of_eq rfl
  | true =>
    obtain ⟨runs, -⟩ := (s.examines_iff h).mp seen
    refine (s.works_takePacket h bytes f).keeps fun _ outside => ?_
    have state : s.runState = .init ∨ s.runState = .standby := outside
    rcases runs with run | run <;> simp [run] at state

/-! ### The position unit (R1 to R13) -/

theorem State.works_divide : s.tables.Works s.divide.tables := by
  simp only [State.divide]
  split_ifs
  · refine .trans (.of_eq ?_) (State.works_openSlots _ _ _)
    simp
  · exact .refl _
  · exact .refl _

/-- R7: a forward count divides in INSPECTING alone. -/
theorem State.keeps_forwardCount : s.tables.Keeps s.forwardCount.tables := by
  by_cases divides : ahead (s.pos.web + 1) s.pos.highWater = true ∧ s.runState = .inspecting
  · obtain ⟨advancing, inspects⟩ := divides
    rw [s.forwardCount_advancing advancing inspects]
    refine (s.movedOn.works_divide.trans (State.calm_fireAt _ _).toWorks).keeps fun _ outside => ?_
    have state : s.runState = .init ∨ s.runState = .standby := outside
    simp [inspects] at state
  · have moved : s.forwardCount = s.movedOn.fireAt (s.pos.web + 1) := by
      rcases not_and_or.mp divides with behind | rests
      · exact s.forwardCount_rewound (by simpa using behind)
      · exact s.forwardCount_idle rests
    rw [moved]
    exact (s.movedOn.calm_fireAt _).keeps

theorem State.calm_backwardCount : s.tables.Calm s.backwardCount.tables := by
  simp only [State.backwardCount]
  split
  · exact State.calm_loseOrders ((s.modPos _).modPos _)
  · exact .refl _

/-! ### Engine commands (R74, R75, R78, R81, R85) -/

theorem Engine.tables_writeCal (entries : List (Nat × Nat)) (column : Nat) (e : Engine) :
    (e.writeCal column entries).tables = e.tables := by
  induction entries generalizing column e with
  | nil => rfl
  | cons entry rest ih => exact (ih _ _).trans rfl

@[simp] theorem State.tables_takeSetCal (p : Port) (side : Side) (b : SetCalBody) :
    (s.takeSetCal p side b).tables = s.tables := by
  unfold State.takeSetCal
  split_ifs
  · rfl
  · rfl
  · exact s.tables_modEng_of_eq side _ fun e => e.tables_writeCal ..

theorem State.works_takeTeach (p : Port) (side : Side) (b : TeachBody) :
    s.tables.Works (s.takeTeach p side b).tables := by
  unfold State.takeTeach
  split_ifs
  · exact .refl _
  · exact .refl _
  · exact .refl _
  · rw [State.tables_answerOk]
    exact s.works_modEng side _ ⟨id, id⟩

/-- R81: a teach begins in INSPECTING alone. -/
theorem State.keeps_takeTeach (p : Port) (side : Side) (b : TeachBody) :
    s.tables.Keeps (s.takeTeach p side b).tables := by
  by_cases inspects : s.runState = .inspecting
  · refine (s.works_takeTeach p side b).keeps fun _ outside => ?_
    have state : s.runState = .init ∨ s.runState = .standby := outside
    simp [inspects] at state
  · refine .of_eq ?_
    rw [State.takeTeach, if_pos inspects]
    split_ifs <;> rfl

theorem EngineTables.empty_teachEnded {x : EngineTables} (empty : x.Empty) : { x with teach := none }.Empty := by
  obtain ⟨inFlight, blobs, streaks, bins, -⟩ := empty
  exact ⟨inFlight, blobs, streaks, bins, rfl⟩

theorem State.calm_takeTeachAbort (p : Port) (side : Side) : s.tables.Calm (s.takeTeachAbort p side).tables := by
  unfold State.takeTeachAbort
  split
  · exact .refl _
  · rw [State.tables_answerOk, State.tables_offerAll]
    exact s.calm_modEng side _ (EngineTables.works_teach _ none) EngineTables.empty_teachEnded

theorem State.works_takeEngineCommand (p : Port) (side : Side) (c : EngineCommand) (body : List Byte) :
    s.tables.Works (s.takeEngineCommand p side c body).tables := by
  cases c with
  | setCal =>
    simp only [State.takeEngineCommand]
    split
    · exact .of_eq (s.tables_takeSetCal ..)
    · exact .refl _
  | teach =>
    simp only [State.takeEngineCommand]
    split
    · exact s.works_takeTeach ..
    · exact .refl _
  | teachAbort => exact (s.calm_takeTeachAbort p side).toWorks

theorem State.keeps_takeEngineCommand (p : Port) (side : Side) (c : EngineCommand) (body : List Byte) :
    s.tables.Keeps (s.takeEngineCommand p side c body).tables := by
  cases c with
  | setCal =>
    simp only [State.takeEngineCommand]
    split
    · exact .of_eq (s.tables_takeSetCal ..)
    · exact .of_eq rfl
  | teach =>
    simp only [State.takeEngineCommand]
    split
    · exact s.keeps_takeTeach ..
    · exact .of_eq rfl
  | teachAbort => exact (s.calm_takeTeachAbort p side).keeps

/-- R71: a line is in flight in a run alone. -/
theorem State.not_outside_of_inFlight {s : State} {side : Side} (flies : (s.eng.get side).inFlight.isSome = true)
    (rests : s.tables.Rests) : ¬s.tables.Outside := fun outside => by
  obtain ⟨-, empty⟩ := rests side
  obtain ⟨-, -, inFlight, -⟩ := empty outside
  have idle : (s.eng.get side).inFlight = none := inFlight
  simp [idle] at flies

theorem State.keeps_reachEngine (p : Port) (side : Side) (c : EngineCommand) (body : List Byte) :
    s.tables.Keeps (s.reachEngine p side c body).tables := by
  unfold State.reachEngine
  split
  case isFalse => exact s.keeps_takeEngineCommand ..
  case isTrue flies =>
    refine (s.works_modEng side _ ⟨id, fun _ idle => ?_⟩).keeps (State.not_outside_of_inFlight flies)
    have none_flies : (s.eng.get side).inFlight = none := idle
    simp [none_flies] at flies

theorem State.works_takeHeld (side : Side) (c : HeldCommand) : s.tables.Works (s.takeHeld side c).tables :=
  State.works_takeEngineCommand (s.noteTransfer c.port) ..

/-- Work that every item of a list does, the list does. -/
theorem State.works_foldl {α : Type} (f : State → α → State) (works : ∀ (s : State) x, s.tables.Works (f s x).tables)
    (l : List α) : s.tables.Works (l.foldl f s).tables := by
  induction l generalizing s with
  | nil => exact .refl _
  | cons x rest ih => exact (works s x).trans (ih (f s x))

/-- R74: a line in flight is released with no command left that is held. -/
theorem State.works_releaseLine (side : Side) : s.tables.Works (s.releaseLine side).tables :=
  (s.works_modEng side _ ⟨id, fun _ _ => rfl⟩).trans
    (State.works_foldl _ _ (fun s c => s.works_takeHeld side c) (s.eng.get side).held)

theorem State.calm_setSide (p : Port) (side : Side) (width : Nat) : s.tables.Calm (s.setSide p side width).tables := by
  unfold State.setSide
  split_ifs
  · exact .refl _
  · rw [State.tables_answerOk]
    refine s.calm_modEng side _ ⟨id, id⟩ ?_
    rintro ⟨inFlight, blobs, streaks, -, teach⟩
    exact ⟨inFlight, blobs, streaks, rfl, teach⟩
  · exact .refl _

/-- R71: a line waits in a queue in a run alone. -/
theorem execLineTake_keeps (side : Side) : ∃ t, execLineTake side s = .next t ∧ s.tables.Keeps t.tables := by
  refine ⟨_, rfl, ?_⟩
  split
  case h_2 => exact .of_eq rfl
  case h_1 line rest _ _ queue =>
    refine ((s.works_beginLine side line rest queue).trans (State.works_runOperation _ side line)).keeps
      fun rests outside => ?_
    obtain ⟨-, empty⟩ := rests side
    obtain ⟨-, waiting, -⟩ := empty outside
    have none_waits : (s.asm.get side).queue = [] := waiting
    simp [none_waits] at queue

/-! ### Run control (R163 to R168) -/

theorem State.works_prepareStart : s.tables.Works s.prepareStart.tables := by
  rw [State.prepareStart, ← s.tables_foldl State.startHead State.tables_startHead allHeads]
  generalize allHeads.foldl State.startHead s = u
  have cleared := (u.works_modEng .top (·.clearAccumulators) ⟨id, id⟩).trans
    (State.works_modEng _ .bottom (·.clearAccumulators) ⟨id, id⟩)
  exact cleared.trans (State.calm_changeOverHeadless _).toWorks

theorem State.works_syncTrigger : s.tables.Works s.syncTrigger.tables := State.works_openSlots (s.modPos _) _ _

/-- R164: START opens slots, and the run state is then INSPECTING. -/
theorem State.keeps_startRun (p : Port) : s.tables.Keeps (s.startRun p).tables := by
  have prepared : s.tables.Works (s.inStep .startRecords State.prepareStart).tables := by
    rw [State.tables_inStep]
    exact s.works_prepareStart
  have works := prepared.trans (State.works_syncTrigger _)
  rw [State.startRun, State.tables_answerOk, State.tables_inStep, State.tables_changeRunState]
  exact works.keeps_begun (new := .inspecting) nofun

/-- R165. -/
theorem State.keeps_stopRun (p : Port) : s.tables.Keeps (s.stopRun p).tables := by
  rw [State.stopRun, State.tables_answerOk, State.tables_inStep, State.tables_changeRunState, State.tables_inStep,
    State.tables_closeSkipped]
  exact .of_runState .stopping nofun

/-! ### The end of drain (R167) -/

/-- The tables with those of both engines changed alike. -/
def Tables.mapEngines (v : Tables) (f : EngineTables → EngineTables) : Tables :=
  { v with engines := fun side => f (v.engines side) }

/-- What changes the tables of one engine, done for TOP and for BOTTOM. -/
theorem State.tables_bothSides (f : State → Side → State) (g : EngineTables → EngineTables)
    (each : ∀ (s : State) side, (f s side).tables = s.tables.setEngine side (g (s.tables.engines side))) :
    (s.bothSides f).tables = s.tables.mapEngines g := by
  rw [State.bothSides, each, each]
  simp only [Tables.setEngine, Tables.mapEngines]
  congr 1
  funext side
  cases side <;> rfl

/-- R167: the tables of an engine after the end of drain. -/
def EngineTables.drained (x : EngineTables) : EngineTables :=
  { x with blobs := [], streaks := [], bins := [], teach := none }

/-- R167 steps 2 and 3: the bins without those in a state, which become QUIET. -/
def quietedBins (state : BinState) (bins : List (Nat × Bin)) : List (Nat × Bin) :=
  (bins.map fun jb => (jb.1, if jb.2.state = state then Bin.quiet jb.2.s else jb.2)).filter fun jb =>
    decide (jb.2 ≠ Bin.quiet 0)

theorem State.tables_truncateBlobs (side : Side) :
    (s.truncateBlobs side).tables = s.tables.setEngine side { s.tables.engines side with blobs := [] } := by
  simp only [State.truncateBlobs, State.tables_offerAll, State.tables_modEng]
  rfl

theorem State.tables_stopStreaks (side : Side) :
    (s.stopStreaks side).tables
      = s.tables.setEngine side
          { s.tables.engines side with
            streaks := [], bins := quietedBins .streak (s.tables.engines side).bins } := by
  simp only [State.stopStreaks, State.tables_offerAll, State.tables_modEng]
  rfl

theorem State.tables_dropCandidates (side : Side) :
    (s.dropCandidates side).tables
      = s.tables.setEngine side
          { s.tables.engines side with bins := quietedBins .candidate (s.tables.engines side).bins } :=
  s.tables_modEng side _

theorem State.tables_stopTeach (side : Side) :
    (s.stopTeach side).tables = s.tables.setEngine side { s.tables.engines side with teach := none } := by
  unfold State.stopTeach
  split
  case h_1 idle =>
    have same : { s.tables.engines side with teach := none } = s.tables.engines side :=
      congrArg (fun x => { s.tables.engines side with teach := x }) idle.symm
    rw [same, Tables.setEngine_self]
  case h_2 =>
    rw [State.tables_offerAll, State.tables_modEng]
    rfl

theorem State.tables_clearBins (side : Side) :
    (s.clearBins side).tables = s.tables.setEngine side { s.tables.engines side with bins := [] } :=
  s.tables_modEng side _

/-- R167 steps 1 to 6. -/
theorem State.tables_closingSteps : s.closingSteps.tables = s.tables.mapEngines EngineTables.drained := by
  have coverage : ∀ u : State, (u.bothSides State.closeCoverage).tables = u.tables := fun u => by
    rw [State.bothSides, State.tables_closeCoverage, State.tables_closeCoverage]
  simp only [State.closingSteps, State.tables_inStep, coverage,
    State.tables_bothSides _ _ (fun x => { x with blobs := [] }) State.tables_truncateBlobs,
    State.tables_bothSides _ _ (fun x => { x with streaks := [], bins := quietedBins .streak x.bins })
      State.tables_stopStreaks,
    State.tables_bothSides _ _ (fun x => { x with bins := quietedBins .candidate x.bins }) State.tables_dropCandidates,
    State.tables_bothSides _ _ (fun x => { x with teach := none }) State.tables_stopTeach,
    State.tables_bothSides _ _ (fun x => { x with bins := [] }) State.tables_clearBins]
  rfl

/-- R166: the four idle reports. -/
theorem State.allIdle_iff :
    s.allIdle = true ↔
      ∀ side, s.tables.slots side = [] ∧ s.tables.queue side = [] ∧ (s.tables.engines side).inFlight = none := by
  have reports : s.allIdle = true ↔
      ((s.asm.top.slots = [] ∧ s.asm.top.queue = []) ∧ s.asm.bottom.slots = [] ∧ s.asm.bottom.queue = [])
        ∧ s.eng.top.inFlight = none ∧ s.eng.bottom.inFlight = none := by
    simp only [State.allIdle, Assembler.idle, Engine.idle, Bool.and_eq_true, List.isEmpty_iff,
      Option.isNone_iff_eq_none, and_assoc]
  rw [reports]
  constructor
  · rintro ⟨⟨⟨top_slots, top_queue⟩, bottom_slots, bottom_queue⟩, top, bottom⟩ side
    cases side with
    | top => exact ⟨top_slots, top_queue, top⟩
    | bottom => exact ⟨bottom_slots, bottom_queue, bottom⟩
  · intro sides
    obtain ⟨top_slots, top_queue, top⟩ := sides .top
    obtain ⟨bottom_slots, bottom_queue, bottom⟩ := sides .bottom
    exact ⟨⟨⟨top_slots, top_queue⟩, bottom_slots, bottom_queue⟩, top, bottom⟩

/-- R51, R71, R86, R103, R125, R167: the end of drain leaves both sides empty. -/
theorem State.keeps_endDrain (idle : s.allIdle = true) : s.tables.Keeps s.endDrain.tables := by
  rw [State.endDrain, State.tables_inStep, State.tables_changeRunState, State.tables_closingSteps]
  refine ⟨fun ⟨sides, orders⟩ => ⟨fun side => ?_, orders⟩, fun rests side => ⟨(rests side).1, fun _ => ?_⟩⟩
  · obtain ⟨slots, queue, arrivals, -⟩ := sides side
    exact ⟨slots, queue, arrivals, Nat.zero_le _, Nat.zero_le _⟩
  · obtain ⟨slots, queue, inFlight⟩ := s.allIdle_iff.mp idle side
    exact ⟨slots, queue, inFlight, rfl, rfl, rfl, rfl⟩

end

end Sys2Proof.Machine
end

section
/-! SUPPORT. Every command and every step keeps the tables within capacity and the part at rest outside runs. -/

namespace Sys2Proof.Machine

/-! ### Resets (R52, R69, R87, R106, R126, R153) -/

theorem State.keeps_enterInit (s : State) (a b : Bool) : s.tables.Keeps (s.enterInit a b).tables :=
  .of_empty (fun | .top | .bottom => ⟨rfl, rfl, rfl, rfl, rfl, rfl, rfl⟩) (fun | .top | .bottom => rfl)
    (fun | .top | .bottom => rfl) rfl

theorem State.keeps_resetPinned (s : State) (a b : Bool) : s.tables.Keeps (s.resetPinned a b).tables :=
  .of_empty (fun | .top | .bottom => ⟨rfl, rfl, rfl, rfl, rfl, rfl, rfl⟩) (fun | .top | .bottom => rfl)
    (fun | .top | .bottom => rfl) rfl

/-! ### Port commands -/

/-- A command frame keeps what the block that acts on it keeps. -/
theorem takeFrame_keeps (s : State) (p : Port) (len : Nat) (act : State → State)
    (acts : ∀ u : State, u.tables.Keeps (act u).tables) : s.tables.Keeps (takeFrame p len act s).tables := by
  simp only [takeFrame]
  split_ifs
  · exact .of_eq rfl
  · exact .of_eq rfl
  · exact acts ((s.shiftFiller p (2 + len)).beginCommand p)

theorem takeCommand_keeps {β : Type} (s : State) (p : Port) (body : List Byte) (read : List Byte → Option β)
    (act : β → State → State) (acts : ∀ b (u : State), u.tables.Keeps (act b u).tables) :
    s.tables.Keeps (takeCommand p body read act s).tables := by
  refine takeFrame_keeps s p _ _ fun u => ?_
  split
  · exact .of_eq rfl
  · exact acts _ u

/-! ### Every command -/

theorem execInitEnd_keeps (s : State) : ∃ t, execInitEnd s = .next t ∧ s.tables.Keeps t.tables := by
  refine ⟨_, rfl, ?_⟩
  split
  case isFalse => exact .of_eq rfl
  case isTrue init =>
    simp only [State.tables_changeRunState, State.atEachPort, State.tables_modPort, State.tables_noteTransfer]
    exact .of_runState .standby fun _ => .inl init

theorem execSpliceEdge_keeps (s : State) : ∃ t, execSpliceEdge s = .next t ∧ s.tables.Keeps t.tables := by
  refine ⟨_, rfl, ?_⟩
  generalize captured : State.offer _ _ _ = u
  have same : u.tables = s.tables := by rw [← captured, State.tables_offer, State.tables_modPos]
  rw [← same]
  split
  · exact (u.calm_handOnSplice _ _).keeps
  · exact .of_eq rfl

/-- What every command keeps. -/
theorem exec_keeps (c : Instr) (s : State) : ∃ t, exec c s = .next t ∧ s.tables.Keeps t.tables := by
  cases c with
  | powerOn a b => exact ⟨_, rfl, s.keeps_enterInit a b⟩
  | initEnd => exact execInitEnd_keeps s
  | resetPin a b =>
    refine ⟨_, rfl, ?_⟩
    split
    · exact s.keeps_enterInit a b
    · exact s.keeps_resetPinned a b
  | encoderEdge a b =>
    refine ⟨_, rfl, ?_⟩
    split
    · exact .of_eq rfl
    · exact (s.holding a b).keeps_forwardCount
    · exact (s.holding a b).calm_backwardCount.keeps
    · unfold State.illegalTransition
      split <;> exact .of_eq rfl
  | spliceEdge => exact execSpliceEdge_keeps s
  | linkUp h =>
    refine ⟨_, rfl, .of_eq ?_⟩
    split
    · rfl
    · simp only
      split <;> simp
  | linkDown h =>
    refine ⟨_, rfl, .of_eq ?_⟩
    split
    · simp only
      split <;> simp
    · rfl
  | completePacket h bytes => exact ⟨_, rfl, s.keeps_takePacket ..⟩
  | abortedPacket h bytes => exact ⟨_, rfl, s.keeps_takePacket ..⟩
  | waitExpiry side line => exact ⟨_, rfl, s.keeps_waitExpiry side line⟩
  | lineTake side => exact execLineTake_keeps s side
  | lineOperationEnd side =>
    refine ⟨_, rfl, ?_⟩
    split
    case isTrue ends => exact (s.works_releaseLine side).keeps (State.not_outside_of_inFlight ends.1)
    case isFalse => exact .of_eq rfl
  | recordAppend => exact ⟨_, rfl, s.calm_arbitrate.keeps⟩
  | pulseEnd k =>
    refine ⟨_, rfl, .of_eq ?_⟩
    split <;> rfl
  | mcfEdge k => exact ⟨_, rfl, .of_eq rfl⟩
  | confirmWindowExpiry k =>
    refine ⟨_, rfl, .of_eq ?_⟩
    split <;> rfl
  | staleTimerExpiry p =>
    refine ⟨_, rfl, .of_eq ?_⟩
    split <;> rfl
  | drainEnd =>
    refine ⟨_, rfl, ?_⟩
    split
    case isTrue due => exact s.keeps_endDrain due.2
    case isFalse => exact .of_eq rfl
  | setHead p body =>
    refine ⟨_, rfl, takeCommand_keeps s p body _ _ fun b u => .of_eq ?_⟩
    split
    · rfl
    · exact u.tables_setHead ..
  | getHead p body =>
    refine ⟨_, rfl, takeCommand_keeps s p body _ _ fun b u => .of_eq ?_⟩
    split <;> rfl
  | setLine p body =>
    refine ⟨_, rfl, takeCommand_keeps s p body _ _ fun b u => .of_eq ?_⟩
    split_ifs
    · rfl
    · rfl
    · rw [State.tables_answerOk]
      exact (State.tables_modAsm _ .bottom (·.applyLine b) (fun _ => rfl) fun _ => rfl).trans
        (State.tables_modAsm _ .top (·.applyLine b) (fun _ => rfl) fun _ => rfl)
  | setCal p body =>
    refine ⟨_, rfl, takeCommand_keeps s p body _ _ fun b u => ?_⟩
    split
    · exact .of_eq rfl
    · exact u.keeps_reachEngine ..
  | teach p body =>
    refine ⟨_, rfl, takeCommand_keeps s p body _ _ fun b u => ?_⟩
    split
    · exact .of_eq rfl
    · exact u.keeps_reachEngine ..
  | teachAbort p body =>
    refine ⟨_, rfl, takeCommand_keeps s p body _ _ fun b u => ?_⟩
    split
    · exact .of_eq rfl
    · exact u.keeps_reachEngine ..
  | setSide p body =>
    refine ⟨_, rfl, takeCommand_keeps s p body _ _ fun b u => ?_⟩
    split
    · exact .of_eq rfl
    · exact (u.calm_setSide ..).keeps
  | setRecipe p body =>
    refine ⟨_, rfl, takeCommand_keeps s p body _ _ fun b u => .of_eq ?_⟩
    split
    · rfl
    · split <;> rfl
  | setLane p body =>
    refine ⟨_, rfl, takeCommand_keeps s p body _ _ fun b u => .of_eq ?_⟩
    split
    · exact u.tables_setLane ..
    · rfl
  | switchBank p body =>
    refine ⟨_, rfl, takeCommand_keeps s p body _ _ fun b u => ?_⟩
    split
    · exact .of_eq rfl
    · split_ifs
      · exact .of_eq rfl
      · exact .of_eq rfl
      · exact (u.calm_requestSwitch _).keeps
  | cancelSwitch p body =>
    refine ⟨_, rfl, takeCommand_keeps s p body _ _ fun b u => .of_eq ?_⟩
    split
    · exact u.tables_detachAll
    · rfl
  | setMarker p body =>
    refine ⟨_, rfl, takeCommand_keeps s p body _ _ fun b u => .of_eq ?_⟩
    split
    · split <;> rfl
    · rfl
  | mark p body =>
    refine ⟨_, rfl, takeCommand_keeps s p body _ _ fun b u => ?_⟩
    split
    · exact .of_eq rfl
    · split_ifs
      · exact .of_eq rfl
      · exact (u.calm_place _).keeps
  | getMarker p body =>
    refine ⟨_, rfl, takeCommand_keeps s p body _ _ fun b u => .of_eq ?_⟩
    split <;> rfl
  | readRecords p body => exact ⟨_, rfl, takeCommand_keeps s p body _ _ fun b u => .of_eq rfl⟩
  | setFilter p body =>
    refine ⟨_, rfl, takeCommand_keeps s p body _ _ fun b u => .of_eq ?_⟩
    split
    · rfl
    · exact u.tables_setFilter p b
  | start p body =>
    refine ⟨_, rfl, takeCommand_keeps s p body _ _ fun b u => ?_⟩
    split_ifs
    · exact .of_eq rfl
    · exact .of_eq rfl
    · exact .of_eq rfl
    · exact u.keeps_startRun p
  | stop p body =>
    refine ⟨_, rfl, takeCommand_keeps s p body _ _ fun b u => ?_⟩
    split
    · exact .of_eq rfl
    · exact u.keeps_stopRun p
  | setNotices p body => exact ⟨_, rfl, takeCommand_keeps s p body _ _ fun b u => .of_eq rfl⟩
  | getNotice p body => exact ⟨_, rfl, takeCommand_keeps s p body _ _ fun b u => .of_eq rfl⟩
  | getStatus p body => exact ⟨_, rfl, takeCommand_keeps s p body _ _ fun b u => .of_eq rfl⟩
  | portReset p body => exact ⟨_, rfl, takeCommand_keeps s p body _ _ fun b u => .of_eq rfl⟩
  | fetch p n => exact ⟨_, rfl, .of_eq (s.tables_fetch p n)⟩
  | unknownCommand p code body =>
    refine ⟨_, rfl, ?_⟩
    split
    · exact takeFrame_keeps s p _ _ fun u => .of_eq rfl
    · exact .of_eq rfl
  | badFrame p code rest =>
    refine ⟨_, rfl, .of_eq ?_⟩
    split
    · simp only
      split <;> rfl
    · rfl

/-- What every step keeps. -/
theorem step_keeps {s t : State} (run : step s = .next t) : s.tables.Keeps t.tables := by
  cases pending : s.pending with
  | nil =>
    simp only [step, pending] at run
    cases run
    exact .of_eq rfl
  | cons c rest =>
    simp only [step, pending] at run
    obtain ⟨u, completes, keeps⟩ := exec_keeps c { s with pending := rest }
    rw [completes] at run
    cases run
    exact keeps

end Sys2Proof.Machine

open Sys2Proof Sys2Proof.Machine

/-- Settles O57: capacity and rest are of the tables of a state, and every step keeps both. -/
theorem stepKeepsCapacityAndRest : Obligations.StepKeepsCapacityAndRest := by
  refine ⟨fun s t within run => ?_, fun s t rests run => ?_⟩
  · rw [State.withinCapacity_iff] at within ⊢
    exact (step_keeps run).within within
  · rw [State.restsOutsideRuns_iff] at rests ⊢
    exact (step_keeps run).rests rests
end

section
/-! SUPPORT. The commands of the lane map unit (R54 to R61): the answer of a command that changes the lane map, the valid
recipes, lane records and banks, and what each command does when its port takes it. -/

namespace Sys2Proof.Machine

/-- R155: the OK of a command that has changed engines, the lane map and the store, seen from before the command. -/
theorem State.answerOk_lanes (s : State) (p : Port) (len : Nat) (eng : PerSide Engine) (lanes : LaneMap)
    (store : Store) :
    ({ s.begun p len with eng := eng, lanes := lanes, store := store } : State).answerOk p
      = { s.answered p len { code := .ok, body := [] } with eng := eng, lanes := lanes, store := store } := by
  cases p <;> rfl

/-- R155: the OK of a command that has changed the lane map alone, seen from before the command. -/
theorem State.answerOk_modLanes (s : State) (p : Port) (len : Nat) (f : LaneMap → LaneMap) :
    ((s.begun p len).modLanes f).answerOk p
      = { s.answered p len { code := .ok, body := [] } with lanes := f s.lanes } :=
  s.answerOk_lanes p len s.eng (f s.lanes) s.store

/-! ### SET_RECIPE (R54) -/

theorem Recipe.inRange_iff (r : Recipe) :
    r.inRange = true ↔
      (1 ≤ r.pinThreshold ∧ r.pinThreshold ≤ 255) ∧ (1 ≤ r.minArea ∧ r.minArea ≤ 255) ∧ r.gapLines ≤ 3
        ∧ (1 ≤ r.maxBlobLines ∧ r.maxBlobLines ≤ 4095) ∧ (1 ≤ r.streakOn ∧ r.streakOn ≤ 63) ∧ r.streakOff ≤ r.streakOn
        ∧ r.shift ≤ 7 ∧ (1 ≤ r.minStreakLines ∧ r.minStreakLines ≤ 4095) ∧ r.reportLines ≤ 65535 := by
  simp [Recipe.inRange, and_assoc]

/-- R54: SET_RECIPE with an index of no recipe, or with a field out of its range. -/
theorem exec_setRecipe_refused {s : State} {p : Port} {body : List Byte} {b : SetRecipeBody} (taken : s.takes p)
    (read : readSetRecipe body = some b) (bad : readIndex 8 b.index = none ∨ b.recipe.inRange = false) :
    exec (.setRecipe p body) s = .next (s.refused p body.length .range) := by
  refine congrArg Host.Outcome.next ((takeCommand_taken s p body readSetRecipe _ taken).trans ?_)
  rw [read]
  cases index : readIndex 8 b.index with
  | none => simp only [index, State.refuse_begun]
  | some r =>
    have out : b.recipe.inRange = false := bad.resolve_left (by simp [index])
    simp only [index, out, Bool.false_eq_true, if_false, State.refuse_begun]

/-- R54: SET_RECIPE with the index of a recipe and every field in its range. -/
theorem exec_setRecipe_replaces {s : State} {p : Port} {body : List Byte} {b : SetRecipeBody} {r : RecipeId}
    (taken : s.takes p) (read : readSetRecipe body = some b) (index : readIndex 8 b.index = some r)
    (fits : b.recipe.inRange = true) :
    exec (.setRecipe p body) s
      = .next
          { s.answered p body.length { code := .ok, body := [] } with
            lanes := { s.lanes with recipes := s.lanes.recipes.set r b.recipe } } := by
  refine congrArg Host.Outcome.next ((takeCommand_taken s p body readSetRecipe _ taken).trans ?_)
  rw [read]
  simp only [index, fits, if_true]
  exact s.answerOk_modLanes p body.length _

/-! ### Lane records and banks (R56, R58) -/

theorem mem_allLanes (i : LaneId) : i ∈ allLanes := by
  revert i
  decide

theorem mem_enabledLanes (bank : LaneBank) (i : LaneId) : i ∈ enabledLanes bank ↔ bank[i].enabled = true := by
  simp [enabledLanes, mem_allLanes]

theorem rangesMeet_eq_false (first last first' last' : Nat) :
    rangesMeet first last first' last' = false ↔ last < first' ∨ last' < first := by
  simp only [rangesMeet, Bool.and_eq_false_iff, decide_eq_false_iff_not]
  omega

/-- R58: the spans of any two enabled lanes of a valid bank lie apart. -/
theorem bankValid_iff (bank : LaneBank) :
    bankValid bank = true ↔
      ∀ i j : LaneId, i ≠ j → bank[i].enabled = true → bank[j].enabled = true →
        bank[i].spanLast < bank[j].spanFirst ∨ bank[j].spanLast < bank[i].spanFirst := by
  simp only [bankValid, List.all_eq_true, mem_enabledLanes, Bool.or_eq_true, decide_eq_true_eq, Bool.not_eq_true',
    rangesMeet_eq_false]
  constructor
  · intro valid i j differ oni onj
    exact (valid i oni j onj).resolve_left differ
  · intro apart i oni j onj
    exact or_iff_not_imp_left.mpr fun differ => apart i j differ oni onj

/-- R58: two enabled lanes of a bank that is not valid share a span column. -/
theorem bankValid_eq_false_iff (bank : LaneBank) :
    bankValid bank = false ↔
      ∃ i j : LaneId, i ≠ j ∧ bank[i].enabled = true ∧ bank[j].enabled = true
        ∧ bank[i].spanFirst ≤ bank[j].spanLast ∧ bank[j].spanFirst ≤ bank[i].spanLast := by
  rw [← Bool.not_eq_true, bankValid_iff]
  simp only [not_forall, not_or, not_lt, exists_prop]
  refine exists₂_congr fun i j => and_congr_right fun _ => and_congr_right fun _ => and_congr_right fun _ => ?_
  exact and_comm

theorem LaneRecord.consistent_iff (r : LaneRecord) :
    r.consistent = true ↔
      r.spanFirst ≤ r.coatedFirst ∧ r.coatedFirst ≤ r.coatedLast ∧ r.coatedLast ≤ r.spanLast ∧ r.spanLast ≤ 16383 := by
  simp [LaneRecord.consistent, and_assoc]

theorem readIndex_eq_some_iff {n : Nat} {b : Byte} {i : Fin n} : readIndex n b = some i ↔ b.toNat = i.val := by
  unfold readIndex
  split
  · simp [Fin.ext_iff]
  · rename_i big
    simp only [reduceCtorEq, false_iff]
    omega

/-- R56, R171: the marker index of a lane record, where its encoding is valid. -/
theorem readMarkerOrNone_valid {m : Byte} {marker : Option MarkerId} (read : readMarkerOrNone m = some marker) :
    m.toNat ≤ 7 ∨ m = 0xFF := by
  unfold readMarkerOrNone at read
  split at read
  case isTrue none_byte => exact .inr none_byte
  case isFalse =>
    obtain ⟨k, index, -⟩ := Option.map_eq_some_iff.mp read
    have := readIndex_eq_some_iff.mp index
    exact .inl (by omega)

/-- R56: the lane record of a body whose encodings are valid. -/
def SetLaneBody.spelled (b : SetLaneBody) (recipe : RecipeId) (marker : Option MarkerId) : LaneRecord where
  enabled := b.enabled = 1
  spanFirst := b.spanFirst
  spanLast := b.spanLast
  coatedFirst := b.coatedFirst
  coatedLast := b.coatedLast
  recipe := recipe
  marker := marker

theorem SetLaneBody.record_eq_some_iff (b : SetLaneBody) (r : LaneRecord) :
    b.record = some r ↔
      b.enabled.toNat ≤ 1
        ∧ ∃ recipe marker, readIndex 8 b.recipe = some recipe ∧ readMarkerOrNone b.marker = some marker
          ∧ b.spelled recipe marker = r := by
  simp only [SetLaneBody.record, readBool_eq, Option.bind_eq_bind, Option.bind_eq_some_iff, Option.some.injEq]
  constructor
  · rintro ⟨enabled, code, recipe, index, marker, markerIndex, rfl⟩
    obtain ⟨small, same⟩ := Option.ite_none_right_eq_some.mp code
    cases same
    exact ⟨small, recipe, marker, index, markerIndex, rfl⟩
  · rintro ⟨small, recipe, marker, index, markerIndex, rfl⟩
    exact ⟨_, if_pos small, recipe, index, marker, markerIndex, rfl⟩

/-! ### The side that waits for a switch (R57, R60) -/

theorem State.unswitched_eq_some_iff (s : State) (side : Side) (w : SwitchRecord) :
    s.unswitched side = some w ↔ s.lanes.switch = some w ∧ w.switched.get side = false := by
  unfold State.unswitched
  cases s.lanes.switch with
  | none => simp
  | some v =>
    cases done : v.switched.get side with
    | true =>
      simp only [done, if_true, reduceCtorEq, Option.some.injEq, false_iff]
      rintro ⟨rfl, waits⟩
      simp [done] at waits
    | false =>
      simp only [done, Bool.false_eq_true, if_false, Option.some.injEq]
      exact ⟨fun same => ⟨same, same ▸ done⟩, And.left⟩

theorem State.awaits_iff (s : State) (side : Side) (bank : Bank) :
    s.awaits side bank = true ↔
      ∃ w : SwitchRecord, s.lanes.switch = some w ∧ w.switched.get side = false ∧ w.target.get side = bank := by
  simp only [← and_assoc, ← State.unswitched_eq_some_iff]
  unfold State.awaits
  cases s.unswitched side <;> simp

/-! ### SET_LANE (R57) -/

/-- R57: SET_LANE of a record of the bank in use, outside STANDBY. -/
theorem State.setLane_inUse {s : State} {side : Side} {bank : Bank} (p : Port) (len : Nat) (lane : LaneId)
    (b : SetLaneBody) (inUse : s.lanes.active.get side = bank ∧ s.runState ≠ .standby) :
    (s.begun p len).setLane p bank side lane b = s.refused p len .state :=
  (if_pos inUse).trans (State.refuse_begun ..)

/-- R57: SET_LANE of a record that is not one or not consistent. -/
theorem State.setLane_badRecord {s : State} {side : Side} {bank : Bank} (p : Port) (len : Nat) (lane : LaneId)
    {b : SetLaneBody} (free : ¬(s.lanes.active.get side = bank ∧ s.runState ≠ .standby))
    (bad : ∀ r, b.record = some r → r.consistent = false) :
    (s.begun p len).setLane p bank side lane b = s.refused p len .range := by
  refine (if_neg free).trans ?_
  cases read : b.record with
  | none => exact State.refuse_begun ..
  | some r => simp only [bad r read, Bool.not_false, if_true, State.refuse_begun]

/-- R57, R58: SET_LANE of a consistent record: what the written bank must be, and the write. -/
theorem State.setLane_record {s : State} {side : Side} {bank : Bank} (p : Port) (len : Nat) (lane : LaneId)
    {b : SetLaneBody} {r : LaneRecord} (free : ¬(s.lanes.active.get side = bank ∧ s.runState ≠ .standby))
    (read : b.record = some r) (fits : r.consistent = true) :
    (s.begun p len).setLane p bank side lane b
      = if s.awaits side bank = true ∧ bankValid (((s.lanes.banks.get side).get bank).set lane r) = false then
          s.refused p len .invalidMap
        else
          { s.answered p len { code := .ok, body := [] } with
            lanes :=
              { s.lanes with
                banks :=
                  s.lanes.banks.set side
                    ((s.lanes.banks.get side).set bank (((s.lanes.banks.get side).get bank).set lane r)) } } := by
  refine (if_neg free).trans ?_
  simp only [read, fits, Bool.not_true, Bool.false_eq_true, if_false, State.answerOk_modLanes, State.refuse_begun,
    Bool.and_eq_true, Bool.not_eq_true']
  rfl

/-- R57: SET_LANE at a port that takes it, with a bank, a side or a lane that does not exist. -/
theorem exec_setLane_noLane {s : State} {p : Port} {body : List Byte} {b : SetLaneBody} (taken : s.takes p)
    (read : readSetLane body = some b) (big : 2 ≤ b.bank.toNat ∨ 2 ≤ b.side.toNat ∨ 16 ≤ b.lane.toNat) :
    exec (.setLane p body) s = .next (s.refused p body.length .range) := by
  refine congrArg Host.Outcome.next ((takeCommand_taken s p body readSetLane _ taken).trans ?_)
  rw [read]
  simp only
  split
  case h_1 bank side lane isBank isSide isLane =>
    rcases big with big | big | big
    · exact absurd isBank (by simp [readBank_ge big])
    · exact absurd isSide (by simp [readSide_ge big])
    · exact absurd isLane (by simp [readIndex_ge big])
  case h_2 => exact State.refuse_begun ..

/-- R57: SET_LANE at a port that takes it, with a bank, a side and a lane. -/
theorem exec_setLane_at {s : State} {p : Port} {body : List Byte} {b : SetLaneBody} {bank : Bank} {side : Side}
    {lane : LaneId} (taken : s.takes p) (read : readSetLane body = some b) (isBank : b.bank = bankByte bank)
    (isSide : b.side = sideByte side) (isLane : b.lane = BitVec.ofNat 8 lane.val) :
    exec (.setLane p body) s = .next ((s.begun p body.length).setLane p bank side lane b) := by
  refine congrArg Host.Outcome.next ((takeCommand_taken s p body readSetLane _ taken).trans ?_)
  rw [read]
  simp only [isBank, isSide, isLane, readBank_bankByte, readSide_sideByte, readIndex_ofNat lane (by decide)]

end Sys2Proof.Machine

open Sys2Proof Sys2Proof.Machine

/-- Settles O23: the fields of the body are in their ranges or not. -/
theorem setRecipeReplacesWholeRecipe : Obligations.SetRecipeReplacesWholeRecipe := by
  intro s p i pt ma gl mb1 mb0 on off sh ms1 ms0 rl1 rl0 fl body fits
  let recipe : Recipe :=
    { pinThreshold := pt.toNat, minArea := ma.toNat, gapLines := gl.toNat
      maxBlobLines := be16 mb1 mb0, streakOn := on.toNat, streakOff := off.toNat
      shift := sh.toNat, minStreakLines := be16 ms1 ms0, reportLines := be16 rl1 rl0
      lightEnable := fl.getLsbD 0, darkEnable := fl.getLsbD 1, markPinhole := fl.getLsbD 2
      markLarge := fl.getLsbD 3, markStreakOpen := fl.getLsbD 4, markStreakContinue := fl.getLsbD 5 }
  have read : readSetRecipe body = some { index := i, recipe := recipe } := rfl
  have valid : recipe.inRange = true ↔ fits := by
    have report := be16_lt rl1 rl0
    rw [Recipe.inRange_iff]
    simp only [recipe, fits]
    omega
  refine ⟨fun init => congrArg Host.Outcome.next (takeFrame_init s p 14 _ init), fun taken bad => ?_,
    fun r index taken good => ?_⟩
  · refine exec_setRecipe_refused taken read (bad.imp readIndex_ge fun out => ?_)
    exact Bool.eq_false_iff.mpr fun inRange => out (valid.mp inRange)
  · subst index
    exact exec_setRecipe_replaces taken read (readIndex_ofNat r (by decide)) (valid.mpr good)

/-- Settles O24: the refusals stand in their order, and a record is consistent exactly when its fields fit. -/
theorem setLaneReplacesLaneRecord : Obligations.SetLaneReplacesLaneRecord := by
  intro s p bk sd ln e sf1 sf0 sl1 sl0 cf1 cf0 cl1 cl0 r m taken body fits
  let b : SetLaneBody :=
    { bank := bk, side := sd, lane := ln, enabled := e, spanFirst := be16 sf1 sf0, spanLast := be16 sl1 sl0
      coatedFirst := be16 cf1 cf0, coatedLast := be16 cl1 cl0, recipe := r, marker := m }
  have read : readSetLane body = some b := rfl
  refine ⟨exec_setLane_noLane taken read, fun bank side lane isBank isSide isLane => ?_⟩
  intro inUse banks
  have outcome := exec_setLane_at taken read isBank isSide isLane
  refine ⟨fun used => ?_, fun free out => ?_, fun recipe marker isRecipe isMarker free good => ?_⟩
  · rw [outcome, State.setLane_inUse p _ lane b used]
    rfl
  · rw [outcome, State.setLane_badRecord p _ lane free fun x spelled => Bool.eq_false_iff.mpr fun consistent => out ?_]
    · rfl
    · obtain ⟨enabled, recipe, marker, isRecipe, isMarker, rfl⟩ := (b.record_eq_some_iff x).mp spelled
      obtain ⟨first, zone, last, columns⟩ := (LaneRecord.consistent_iff _).mp consistent
      have index : r.toNat = recipe.val := readIndex_eq_some_iff.mp isRecipe
      exact ⟨enabled, first, zone, last, columns, by omega, readMarkerOrNone_valid isMarker⟩
  · obtain ⟨enabled, first, zone, last, columns, -, -⟩ := good
    have spelled : b.record = some (b.spelled recipe marker) :=
      (b.record_eq_some_iff _).mpr
        ⟨enabled, recipe, marker, by rw [← readIndex_ofNat recipe (by decide), ← isRecipe],
          by rw [← readMarkerOrNone_markerByte marker, ← isMarker], rfl⟩
    have consistent : (b.spelled recipe marker).consistent = true :=
      (LaneRecord.consistent_iff _).mpr ⟨first, zone, last, columns⟩
    intro written invalid awaited
    have waits : s.awaits side bank = true ↔ awaited := s.awaits_iff side bank
    have meets : bankValid written = false ↔ invalid := bankValid_eq_false_iff written
    rw [outcome, State.setLane_record p _ lane free spelled consistent]
    exact ⟨fun awaits bad => congrArg Host.Outcome.next (if_pos ⟨waits.mpr awaits, meets.mpr bad⟩),
      fun ok => congrArg Host.Outcome.next (if_neg fun ⟨awaits, bad⟩ => ok ⟨waits.mp awaits, meets.mp bad⟩)⟩

/-- Settles O26: the request and the attachments go, in one change of the lane map. -/
theorem cancelSwitchRemovesRequest : Obligations.CancelSwitchRemovesRequest := by
  intro s p taken
  refine ⟨fun idle => ?_, fun pending => ?_⟩
  · refine congrArg Host.Outcome.next ((takeCommand_taken s p [] readNothing _ taken).trans ?_)
    exact (if_neg (by simp [State.begun, idle])).trans (State.refuse_begun ..)
  · refine congrArg Host.Outcome.next ((takeCommand_taken s p [] readNothing _ taken).trans ?_)
    exact (if_pos pending).trans (s.answerOk_modLanes p 0 _)
end

section
/-! SUPPORT. The changeover of a side (R64) and the request of SWITCH_BANK (R60, R65): what each makes of the whole
state. -/

namespace Sys2Proof.Machine

/-- R64: a side engine whose blobs, streaks and bins are gone. -/
def Engine.changedOver (e : Engine) : Engine := { e with blobs := [], streaks := [], bins := [] }

/-- R64: the lane map when a side has switched. -/
def LaneMap.changedOver (l : LaneMap) (side : Side) (w : SwitchRecord) : LaneMap :=
  { l with
    active := l.active.set side (w.target.get side)
    switch := some { w with switched := w.switched.set side true } }

theorem State.switchSide_eq (s : State) (side : Side) (w : SwitchRecord) :
    s.switchSide side w
      = { s with eng := s.eng.set side (s.eng.get side).changedOver, lanes := s.lanes.changedOver side w } := rfl

/-- The records that a writer makes, as it offers them. -/
def offersOf (w : Writer) (made : List Made) : List Offer := made.map fun m => plainOffer w m.1 m.2

theorem State.offerAll_adding (s : State) (w : Writer) (made : List Made) :
    s.offerAll w made = { s with store := s.store.adding (offersOf w made) } := s.offerAll_eq w made

/-- R64, R70: the records of a changeover at once. -/
def State.atOnceOffers (s : State) (side : Side) (w : SwitchRecord) : List Offer :=
  offersOf (.engine side) (s.changeoverClosures side) ++ offersOf .laneMap [bankSwitchedRecord side s.pos.web w]

theorem State.changeOverAtOnce_eq (s : State) (side : Side) (w : SwitchRecord) :
    s.changeOverAtOnce side w
      = { s with
          eng := s.eng.set side (s.eng.get side).changedOver
          lanes := s.lanes.changedOver side w
          store := s.store.adding (s.atOnceOffers side w) } := by
  simp only [State.changeOverAtOnce, State.offerAll_adding, State.switchSide_eq, Store.adding_adding,
    State.atOnceOffers]

/-- R60, R65: both sides of a new request, each of which changes over at once or keeps waiting. -/
def State.bothChanged (s : State) (w : SwitchRecord) (now : PerSide Bool) : State :=
  { s with
    eng :=
      { top := if now.top then s.eng.top.changedOver else s.eng.top
        bottom := if now.bottom then s.eng.bottom.changedOver else s.eng.bottom }
    lanes :=
      { s.lanes with
        active :=
          { top := if now.top then w.target.top else s.lanes.active.top
            bottom := if now.bottom then w.target.bottom else s.lanes.active.bottom }
        switch := if now.top && now.bottom then none else some { w with switched := now } }
    store :=
      s.store.adding
        ((if now.top then s.atOnceOffers .top w else []) ++ if now.bottom then s.atOnceOffers .bottom w else []) }

theorem State.bothChanged_active (s : State) (w : SwitchRecord) (now : PerSide Bool) (side : Side) :
    (s.bothChanged w now).lanes.active.get side
      = if now.get side then w.target.get side else s.lanes.active.get side := by
  cases side <;> rfl

theorem State.bothChanged_eng (s : State) (w : SwitchRecord) (now : PerSide Bool) (side : Side) :
    (s.bothChanged w now).eng.get side
      = if now.get side then (s.eng.get side).changedOver else s.eng.get side := by
  cases side <;> rfl

theorem State.mem_bothChanged_waiting {s : State} {w : SwitchRecord} {now : PerSide Bool} {side : Side} {o : Offer}
    (yes : now.get side = true) (made : o ∈ s.atOnceOffers side w) : o ∈ (s.bothChanged w now).store.waiting := by
  refine List.mem_append_right _ ?_
  cases side with
  | top => exact List.mem_append_left _ (by rwa [if_pos (show now.top = true from yes)])
  | bottom => exact List.mem_append_right _ (by rwa [if_pos (show now.bottom = true from yes)])

/-- R60, R65: a side that waits changes over at once when `now` holds of it, and keeps waiting otherwise. -/
theorem State.changeOverIf_waiting {s : State} {side : Side} {w : SwitchRecord} (now : Bool)
    (waits : s.unswitched side = some w) :
    s.changeOverIf side now
      = { s with
          eng := s.eng.set side (if now then (s.eng.get side).changedOver else s.eng.get side)
          lanes :=
            { s.lanes with
              active := s.lanes.active.set side (if now then w.target.get side else s.lanes.active.get side)
              switch := some { w with switched := w.switched.set side now } }
          store := s.store.adding (if now then s.atOnceOffers side w else []) } := by
  simp only [State.changeOverIf, waits]
  cases now with
  | true => exact s.changeOverAtOnce_eq side w
  | false =>
    obtain ⟨pending, waiting⟩ := (s.unswitched_eq_some_iff side w).mp waits
    have same : w.switched.set side false = w.switched := by rw [← waiting, PerSide.set_get]
    simp only [Bool.false_eq_true, if_false, PerSide.set_get, Store.adding_nil, same, ← pending]

theorem State.completeSwitch_pending {s : State} {w : SwitchRecord} (pending : s.lanes.switch = some w) :
    s.completeSwitch
      = { s with
          lanes := { s.lanes with switch := if w.switched.top && w.switched.bottom then none else some w } } := by
  simp only [State.completeSwitch, pending]
  split
  · rfl
  · rw [← pending]

/-- R60, R63, R65: a new request is made, each side changes over at once or not, and a request that both sides have
completed is removed. -/
theorem State.changeOver_both {s : State} {w : SwitchRecord} (now : PerSide Bool) (pending : s.lanes.switch = some w)
    (fresh : w.switched = { top := false, bottom := false }) :
    ((s.changeOverIf .top now.top).changeOverIf .bottom now.bottom).completeSwitch = s.bothChanged w now := by
  have top_waits : s.unswitched .top = some w := (s.unswitched_eq_some_iff .top w).mpr ⟨pending, by rw [fresh]; rfl⟩
  let u := s.changeOverIf .top now.top
  let v : SwitchRecord := { w with switched := { top := now.top, bottom := false } }
  have top_changed := State.changeOverIf_waiting now.top top_waits
  have bottom_waits : u.unswitched .bottom = some v := by
    rw [State.unswitched_eq_some_iff]
    simp only [u, v, top_changed, fresh, PerSide.set, PerSide.get, and_self]
  have bottom_changed := State.changeOverIf_waiting now.bottom bottom_waits
  rw [State.completeSwitch_pending (by rw [bottom_changed]), bottom_changed]
  simp only [u, v, top_changed]
  rw [Store.adding_adding]
  obtain ⟨top, bottom⟩ := now
  cases top <;> cases bottom <;> rfl

theorem State.requestSwitch_eq (s : State) {w : SwitchRecord} (fresh : w.switched = { top := false, bottom := false }) :
    s.requestSwitch w
      = s.bothChanged w
          (if s.runState = .standby ∧ w.mode = .now then { top := true, bottom := true }
          else { top := !s.hasHead .top, bottom := !s.hasHead .bottom }) := by
  let u := s.modLanes fun l => { l with switch := some w }
  by_cases at_once : s.runState = .standby ∧ w.mode = .now
  · rw [if_pos at_once]
    exact (if_pos at_once).trans (State.changeOver_both (s := u) { top := true, bottom := true } rfl fresh)
  · rw [if_neg at_once]
    exact (if_neg at_once).trans
      (State.changeOver_both (s := u) { top := !s.hasHead .top, bottom := !s.hasHead .bottom } rfl fresh)

/-! ### SWITCH_BANK (R60) -/

theorem readSwitchMode_switchModeByte (mode : SwitchMode) : readSwitchMode (switchModeByte mode) = some mode := by
  cases mode <;> rfl

theorem readSwitchMode_ge {m : Byte} (big : 3 ≤ m.toNat) : readSwitchMode m = none := by
  have now : m ≠ 0 := by rintro rfl; simp at big
  have position : m ≠ 1 := by rintro rfl; simp at big
  have splice : m ≠ 2 := by rintro rfl; simp at big
  rw [readSwitchMode, if_neg now, if_neg position, if_neg splice]

/-- R60: the inactive banks of both sides are valid. -/
theorem State.targetsValid_iff (s : State) :
    s.targetsValid = true ↔
      ∀ side : Side, bankValid ((s.lanes.banks.get side).get (otherBank (s.lanes.active.get side))) = true := by
  rw [State.targetsValid, Bool.and_eq_true]
  exact ⟨fun ⟨top, bottom⟩ side => by cases side <;> assumption, fun valid => ⟨valid .top, valid .bottom⟩⟩

/-- R60: SWITCH_BANK at a port that takes it, with a mode that does not exist. -/
theorem exec_switchBank_noMode {s : State} {p : Port} {m : Byte} (b3 b2 b1 b0 : Byte) (taken : s.takes p)
    (big : 3 ≤ m.toNat) : exec (.switchBank p [m, b3, b2, b1, b0]) s = .next (s.refused p 5 .range) := by
  refine congrArg Host.Outcome.next ((takeCommand_taken s p _ readSwitchBank _ taken).trans ?_)
  simp only [readSwitchBank, readSwitchMode_ge big]
  exact State.refuse_begun ..

/-- R60: SWITCH_BANK at a port that takes it, with a mode: the checks in their order, then the request. -/
theorem exec_switchBank_mode {s : State} {p : Port} (mode : SwitchMode) (b3 b2 b1 b0 : Byte) (taken : s.takes p) :
    exec (.switchBank p [switchModeByte mode, b3, b2, b1, b0]) s
      = .next
          (if s.lanes.switch.isSome = true then s.refused p 5 .pending
          else if s.targetsValid = false then s.refused p 5 .invalidMap
          else
            ((s.begun p 5).requestSwitch
              (s.newSwitch mode (BitVec.ofNat 32 (be32 b3 b2 b1 b0)))).answerOk p) := by
  refine congrArg Host.Outcome.next ((takeCommand_taken s p _ readSwitchBank _ taken).trans ?_)
  simp only [readSwitchBank, readSwitchMode_switchModeByte]
  refine ite_congr rfl (fun _ => State.refuse_begun ..) fun _ =>
    ite_congr ?_ (fun _ => State.refuse_begun ..) fun _ => rfl
  exact Bool.not_eq_true' _

/-- R60: which sides a new request changes over at once. -/
def State.changedAtOnce (s : State) (mode : SwitchMode) : PerSide Bool :=
  if s.runState = .standby ∧ mode = .now then { top := true, bottom := true }
  else { top := !s.hasHead .top, bottom := !s.hasHead .bottom }

/-- R60, R65: what a new request makes of the engines, the lane map and the store. -/
def State.switchRequested (s : State) (mode : SwitchMode) (position : Position) : State :=
  s.bothChanged (s.newSwitch mode position) (s.changedAtOnce mode)

/-- R60: SWITCH_BANK at a port that takes it, when nothing stands against the request. -/
theorem exec_switchBank_requests {s : State} {p : Port} (mode : SwitchMode) (b3 b2 b1 b0 : Byte) (taken : s.takes p)
    (idle : s.lanes.switch = none) (valid : s.targetsValid = true) :
    exec (.switchBank p [switchModeByte mode, b3, b2, b1, b0]) s
      = .next
          { s.answered p 5 { code := .ok, body := [] } with
            eng := (s.switchRequested mode (BitVec.ofNat 32 (be32 b3 b2 b1 b0))).eng
            lanes := (s.switchRequested mode (BitVec.ofNat 32 (be32 b3 b2 b1 b0))).lanes
            store := (s.switchRequested mode (BitVec.ofNat 32 (be32 b3 b2 b1 b0))).store } := by
  rw [exec_switchBank_mode mode b3 b2 b1 b0 taken, if_neg (by simp [idle]), if_neg (by simp [valid]),
    State.requestSwitch_eq _ rfl]
  exact congrArg Host.Outcome.next (s.answerOk_lanes p 5 _ _ _)

/-- R64: a changeover leaves an engine as it is that has no blob, no streak and no bin. -/
theorem Engine.changedOver_of_empty {e : Engine} (blobs : e.blobs = []) (streaks : e.streaks = [])
    (bins : e.bins = []) : e.changedOver = e := by
  rw [Engine.changedOver, ← blobs, ← streaks, ← bins]

/-- R64: a changeover of a side without blobs and streaks makes the BANK_SWITCHED record alone. -/
theorem State.atOnceOffers_of_empty {s : State} {side : Side} (w : SwitchRecord) (blobs : (s.eng.get side).blobs = [])
    (bins : (s.eng.get side).bins = []) :
    s.atOnceOffers side w = offersOf .laneMap [bankSwitchedRecord side s.pos.web w] := by
  have closures : s.changeoverClosures side = [] := by
    simp only [State.changeoverClosures, closeBlobs, Engine.closeStreaks, blobs, bins]
    rfl
  rw [State.atOnceOffers, closures]
  rfl

end Sys2Proof.Machine

open Sys2Proof Sys2Proof.Machine

/-- Settles O25: the refusals stand in their order; a request that is made changes both sides over at once, or those
without an enabled head. -/
theorem switchBankRequestsOrSwitches : Obligations.SwitchBankRequestsOrSwitches := by
  intro s p m b3 b2 b1 b0 taken body targets valid switched
  refine ⟨exec_switchBank_noMode b3 b2 b1 b0 taken, fun mode isMode => ?_⟩
  have code : m = switchModeByte mode := isMode.trans (by cases mode <;> rfl)
  subst code
  have banks : s.targetsValid = true ↔ valid := by
    rw [State.targetsValid_iff]
    refine forall_congr' fun side => ?_
    rw [bankValid_iff]
    cases side <;> rfl
  have checked := exec_switchBank_mode mode b3 b2 b1 b0 taken
  refine ⟨fun pending => ?_, fun idle bad => ?_, fun idle ok standby now rests => ?_, fun idle ok later => ?_⟩
  · exact checked.trans (congrArg Host.Outcome.next (if_pos pending))
  · rw [checked, if_neg (by simp [idle]), if_pos (Bool.eq_false_iff.mpr fun ok => bad (banks.mp ok))]
  · have both : s.changedAtOnce mode = { top := true, bottom := true } := if_pos ⟨standby, now⟩
    have quiet : ∀ side : Side,
        (s.eng.get side).changedOver = s.eng.get side
          ∧ ∀ w, s.atOnceOffers side w = offersOf .laneMap [bankSwitchedRecord side s.pos.web w] := fun side => by
      obtain ⟨-, -, -, blobs, streaks, bins, -⟩ := (rests side).2 (.inr standby)
      exact ⟨Engine.changedOver_of_empty blobs streaks bins, fun w => State.atOnceOffers_of_empty w blobs bins⟩
    obtain ⟨top, top_offers⟩ := quiet .top
    obtain ⟨bottom, bottom_offers⟩ := quiet .bottom
    have eng : ({ top := s.eng.top.changedOver, bottom := s.eng.bottom.changedOver } : PerSide Engine) = s.eng :=
      congrArg₂ PerSide.mk top bottom
    rw [exec_switchBank_requests mode b3 b2 b1 b0 taken idle (banks.mpr ok)]
    simp only [State.switchRequested, both, State.bothChanged, if_true, Bool.and_self, top_offers, bottom_offers, eng,
      ← idle]
    rfl
  · have headless : s.changedAtOnce mode = { top := !s.hasHead .top, bottom := !s.hasHead .bottom } := if_neg later
    refine ⟨_, exec_switchBank_requests mode b3 b2 b1 b0 taken idle (banks.mpr ok), rfl, rfl, rfl, fun side => ?_, ?_,
      rfl, rfl, rfl, rfl, rfl, rfl, rfl⟩
    · have now : (s.changedAtOnce mode).get side = !s.hasHead side := by
        rw [headless]
        cases side <;> rfl
      refine ⟨?_, fun on => ?_, fun off => State.mem_bothChanged_waiting (by rw [now, off]; rfl) ?_⟩
      · refine (State.bothChanged_active ..).trans ?_
        rw [now]
        cases on : s.hasHead side <;> cases side <;> rfl
      · exact (State.bothChanged_eng ..).trans (by rw [now, on]; rfl)
      · refine List.mem_append_right _ ?_
        cases side <;> exact List.mem_singleton_self _
    · simp only [State.switchRequested, headless, State.bothChanged]
      cases s.hasHead .top <;> cases s.hasHead .bottom <;> rfl
end

section
/-! SUPPORT. What the stages behind the changeover stage make of a side engine (R72): they add records behind those that
stand, and no stage begins a teach. -/

namespace Sys2Proof.Machine

theorem Engine.addRecords_nil (e : Engine) (side : Side) : e.addRecords side [] = e := by
  simp only [Engine.addRecords, List.map_nil, List.append_nil]

theorem Engine.addRecords_addRecords (e : Engine) (side : Side) (x y : List Made) :
    (e.addRecords side x).addRecords side y = e.addRecords side (x ++ y) := by
  simp only [Engine.addRecords, List.append_assoc, List.map_append]

/-- The engine without what stages 4 to 6 work on. -/
def Engine.untouched (e : Engine) : Engine :=
  { e with
    laneLevels := Vector.replicate 16 .none, blobs := [], runList := [], runsDropped := 0, blobDrops := 0, bins := []
    streaks := [] }

/-- Stages 4 to 6 change what they work on, and add records behind those that stand (R74). -/
def Engine.Inspected (side : Side) (e f : Engine) : Prop :=
  ∃ made : List Made, f.untouched = (e.addRecords side made).untouched

theorem Engine.Inspected.teach {side : Side} {e f : Engine} (h : Engine.Inspected side e f) : f.teach = e.teach := by
  obtain ⟨made, same⟩ := h
  calc f.teach = f.untouched.teach := rfl
    _ = e.teach := by rw [same]; rfl

theorem Engine.Inspected.recordList {side : Side} {e f : Engine} (h : Engine.Inspected side e f) :
    e.recordList <+: f.recordList := by
  obtain ⟨made, same⟩ := h
  refine ⟨offersOf (.engine side) made, ?_⟩
  calc e.recordList ++ offersOf (.engine side) made = (e.addRecords side made).untouched.recordList := rfl
    _ = f.recordList := by rw [← same]; rfl

/-- A change without a record. -/
theorem Engine.Inspected.of_eq {side : Side} {e f : Engine} (same : f.untouched = e.untouched) :
    Engine.Inspected side e f := ⟨[], by rw [same, Engine.addRecords_nil]⟩

theorem Engine.Inspected.refl (side : Side) (e : Engine) : Engine.Inspected side e e := .of_eq rfl

theorem Engine.Inspected.trans {side : Side} {e f g : Engine} (h : Engine.Inspected side e f)
    (k : Engine.Inspected side f g) : Engine.Inspected side e g := by
  obtain ⟨x, hx⟩ := h
  obtain ⟨y, hy⟩ := k
  refine ⟨x ++ y, ?_⟩
  calc g.untouched = f.untouched.addRecords side y := hy
    _ = (e.addRecords side x).untouched.addRecords side y := by rw [hx]
    _ = (e.addRecords side (x ++ y)).untouched := Engine.addRecords_addRecords e.untouched side x y

theorem Engine.Inspected.foldl {α : Type} {side : Side} (f : Engine → α → Engine)
    (works : ∀ e x, Engine.Inspected side e (f e x)) (e : Engine) (l : List α) :
    Engine.Inspected side e (l.foldl f e) := by
  induction l generalizing e with
  | nil => exact .refl side e
  | cons x rest ih => exact (works e x).trans (ih (f e x))

/-! ### Stages 5 and 6 -/

theorem Engine.stagePinholes_inspected (e : Engine) (side : Side) (position : Position) (bank : LaneBank)
    (recipes : Recipes) (cols : List (Nat × Nat)) :
    Engine.Inspected side e (e.stagePinholes side position bank recipes cols) := by
  let found := e.stageRuns side position bank recipes cols
  have runs : Engine.Inspected side e found.1 := ⟨_, rfl⟩
  have blobs : Engine.Inspected side found.1 (found.1.stageBlobs side position bank recipes cols found.2) := ⟨_, rfl⟩
  exact runs.trans blobs

theorem Engine.setBin_inspected (side : Side) (e : Engine) (j : Nat) (b : Bin) :
    Engine.Inspected side e (e.setBin j b) := .of_eq rfl

theorem Engine.confirm_inspected (e : Engine) (x : BinContext) (b : Bin) :
    Engine.Inspected x.side e (e.confirm x b) := by
  unfold Engine.confirm
  split
  · split
    · exact ⟨_, rfl⟩
    · exact ⟨_, rfl⟩
  · exact e.setBin_inspected x.side _ _

theorem Engine.quietBin_inspected (e : Engine) (x : BinContext) (s : Int) :
    Engine.Inspected x.side e (e.quietBin x s) := by
  unfold Engine.quietBin
  split
  · exact e.setBin_inspected x.side _ _
  · split
    · exact e.confirm_inspected x _
    · exact e.setBin_inspected x.side _ _

theorem Engine.streakBin_inspected (e : Engine) (x : BinContext) (b : Bin) (s : Int) :
    Engine.Inspected x.side e (e.streakBin x b s) := by
  unfold Engine.streakBin
  split
  · simp only
    split
    · exact ⟨_, rfl⟩
    · exact e.setBin_inspected x.side _ _
  · let ended : Engine :=
      { e.addRecords x.side [e.streakCloseRecord x.side x.bank .ended x.index (some x.lane) b] with
        streaks := e.streaks.filter fun entry => entry.bin ≠ x.index }
    have closes : Engine.Inspected x.side e ended := ⟨_, rfl⟩
    exact closes.trans (ended.quietBin_inspected x s)

theorem Engine.transition_inspected (e : Engine) (x : BinContext) (s : Int) :
    Engine.Inspected x.side e (e.transition x s) := by
  simp only [Engine.transition]
  split
  · exact e.quietBin_inspected x s
  · unfold Engine.candidateBin
    split
    · exact e.confirm_inspected x _
    · exact e.quietBin_inspected x s
  · exact e.streakBin_inspected x _ s

theorem stepBin_inspected (side : Side) (position : Position) (bank : LaneBank) (recipes : Recipes)
    (cols : List (Nat × Nat)) (e : Engine) (jl : Nat × LaneId) :
    Engine.Inspected side e (stepBin side position bank recipes cols e jl) := by
  simp only [stepBin]
  split
  · split
    · exact e.transition_inspected _ _
    · exact .refl side e
  · exact .refl side e

theorem Engine.stageStreaks_inspected (e : Engine) (side : Side) (position : Position) (bank : LaneBank)
    (recipes : Recipes) (cols : List (Nat × Nat)) :
    Engine.Inspected side e (e.stageStreaks side position bank recipes cols) := by
  have held : Engine.Inspected side e (e.quietUnevaluated bank) := .of_eq rfl
  exact held.trans (.foldl _ (stepBin_inspected side position bank recipes cols) _ _)

/-! ### The line operation (R71 to R74) -/

theorem Engine.inspect_inspected (e : Engine) (side : Side) (position : Position) (bank : LaneBank) (recipes : Recipes)
    (cols : List (Nat × Byte)) : Engine.Inspected side e (e.inspect side position bank recipes cols) := by
  have levels : Engine.Inspected side e (e.stageLevels bank (e.correct cols)) :=
    .of_eq (by simp only [Engine.untouched, Engine.stageLevels])
  exact (levels.trans (Engine.stagePinholes_inspected _ side position bank recipes _)).trans
    (Engine.stageStreaks_inspected _ side position bank recipes _)

theorem Engine.dropPasses_inspected (side : Side) (position : Position) (bank : LaneBank) (recipes : Recipes) (n : Nat)
    (e : Engine) : Engine.Inspected side e (e.dropPasses side position bank recipes n) := by
  induction n generalizing e with
  | zero => exact .refl side e
  | succ n ih => exact (e.inspect_inspected side position bank recipes []).trans (ih _)

/-- R83, R84: the record of a teach that ends stands behind the others. -/
theorem Engine.finishTeach_recordList (e : Engine) (side : Side) (position : Position) (t : Teach) :
    e.recordList <+: (e.finishTeach side position t).recordList := by
  have gains : ∀ (l : List (Nat × TeachColumn)) (e : Engine),
      (l.foldl (fun e c => e.setCalEntry c.1 { (e.calEntry c.1) with gain := taughtGain t.target c.2 }) e).recordList
        = e.recordList := by
    intro l
    induction l with
    | nil => exact fun _ => rfl
    | cons c rest ih => exact fun e => (ih _).trans rfl
  exact ⟨_, congrArg (· ++ _) (gains _ e).symm⟩

/-- R82: a side that is not teaching does not begin to. -/
theorem Engine.stageTeach_idle {e : Engine} (side : Side) (position : Position) (cols : List (Nat × Byte))
    (idle : e.teach = none) : e.stageTeach side position cols = e := by
  simp only [Engine.stageTeach, idle]

theorem Engine.stageTeach_recordList (e : Engine) (side : Side) (position : Position) (cols : List (Nat × Byte)) :
    e.recordList <+: (e.stageTeach side position cols).recordList := by
  unfold Engine.stageTeach
  split
  · exact List.prefix_rfl
  · simp only
    split
    · exact e.finishTeach_recordList side position _
    · exact List.prefix_rfl

theorem Engine.runLine_recordList (e : Engine) (side : Side) (bank : LaneBank) (recipes : Recipes) (line : LineEntry) :
    e.recordList <+: (e.runLine side bank recipes line).recordList :=
  ((e.dropPasses_inspected side line.position bank recipes _).trans
    (Engine.inspect_inspected _ side line.position bank recipes line.cols)).recordList.trans
    (Engine.stageTeach_recordList ..)

theorem Engine.runLine_idle {e : Engine} (side : Side) (bank : LaneBank) (recipes : Recipes) (line : LineEntry)
    (idle : e.teach = none) : (e.runLine side bank recipes line).teach = none := by
  have kept := ((e.dropPasses_inspected side line.position bank recipes (line.precedingDrop.getD 0)).trans
    (Engine.inspect_inspected _ side line.position bank recipes line.cols)).teach.trans idle
  rwa [Engine.runLine, Engine.stageTeach_idle side line.position line.cols kept]

/-- R71, R72: a take that finds a line and its engine free: what the stages behind the changeover stage leave of it. -/
theorem exec_lineTake_after_changeover {s : State} {side : Side} {line : LineEntry} {rest : List LineEntry}
    (free : (s.eng.get side).inFlight = none) (unheld : (s.eng.get side).held = [])
    (queue : (s.asm.get side).queue = line :: rest) :
    let staged := (s.beginLine side line rest).stageChangeover side line.position
    ∃ t, exec (.lineTake side) s = .next t ∧ t.lanes = staged.lanes
      ∧ (staged.eng.get side).recordList <+: (t.eng.get side).recordList
      ∧ ((staged.eng.get side).teach = none → (t.eng.get side).teach = none) := by
  intro staged
  have taken : exec (.lineTake side) s = .next ((s.beginLine side line rest).runOperation side line) := by
    change execLineTake side s = _
    simp only [execLineTake, free, unheld, queue]
  refine ⟨_, taken, rfl, ?_, fun idle => ?_⟩
  · simp only [State.runOperation, State.modEng_eng, PerSide.get_set_same]
    exact Engine.runLine_recordList { (staged.eng.get side) with snapshot := some staged.lanes.recipes } side _ _ line
  · simp only [State.runOperation, State.modEng_eng, PerSide.get_set_same]
    exact Engine.runLine_idle _ _ _ _ idle

end Sys2Proof.Machine
end

section
/-! SUPPORT. The changeover stage of a take (R63 to R67, R70): the records of a changeover, the arrivals served one after
the other, and what the whole stage makes of the side's engine and of the lane map. -/

namespace Sys2Proof.Machine

/-! ### One side and the lane map -/

/-- The state with this engine of a side and this lane map. -/
def State.withSide (s : State) (side : Side) (e : Engine) (l : LaneMap) : State :=
  { s with eng := s.eng.set side e, lanes := l }

@[simp] theorem State.withSide_engine (s : State) (side : Side) (e : Engine) (l : LaneMap) :
    (s.withSide side e l).eng.get side = e := PerSide.get_set_same ..

@[simp] theorem State.withSide_lanes (s : State) (side : Side) (e : Engine) (l : LaneMap) :
    (s.withSide side e l).lanes = l := rfl

@[simp] theorem State.withSide_withSide (s : State) (side : Side) (e f : Engine) (l m : LaneMap) :
    (s.withSide side e l).withSide side f m = s.withSide side f m := by
  simp only [State.withSide, PerSide.set_set]

theorem State.withSide_self (s : State) (side : Side) : s.withSide side (s.eng.get side) s.lanes = s := by
  simp only [State.withSide, PerSide.set_get]

theorem State.modEng_eq (s : State) (side : Side) (f : Engine → Engine) :
    s.modEng side f = s.withSide side (f (s.eng.get side)) s.lanes := rfl

theorem State.modLanes_eq (s : State) (side : Side) (f : LaneMap → LaneMap) :
    s.modLanes f = s.withSide side (s.eng.get side) (f s.lanes) := by
  simp only [State.withSide, PerSide.set_get]
  rfl

theorem State.switchSide_withSide (s : State) (side : Side) (w : SwitchRecord) :
    s.switchSide side w = s.withSide side (s.eng.get side).changedOver (s.lanes.changedOver side w) := rfl

/-! ### The records of a changeover (R64, R70) -/

/-- R102: the PINHOLE records of a changeover. -/
theorem offersOf_closeBlobs (side : Side) (bank : LaneBank) (recipes : Recipes) (blobs : List Blob) :
    offersOf (.engine side) (closeBlobs side bank recipes PinholeFlags.mapChanged blobs)
      = pinholeRecords side bank recipes false true blobs := by
  induction blobs with
  | nil => rfl
  | cons x rest ih =>
    have split_first : offersOf (.engine side) (closeBlobs side bank recipes PinholeFlags.mapChanged (x :: rest))
        = offersOf (.engine side) (closeBlob side bank recipes PinholeFlags.mapChanged x)
          ++ offersOf (.engine side) (closeBlobs side bank recipes PinholeFlags.mapChanged rest) := List.map_append
    rw [split_first, ih]
    by_cases counts : recipes[bank[x.lane].recipe].minArea ≤ x.area
    · have closed : closeBlob side bank recipes PinholeFlags.mapChanged x = [_] := if_pos counts
      simp only [pinholeRecords, List.filter_cons, decide_eq_true counts, if_true, closed]
      rfl
    · have closed : closeBlob side bank recipes PinholeFlags.mapChanged x = [] := if_neg counts
      simp only [pinholeRecords, List.filter_cons, decide_eq_false counts, Bool.false_eq_true, if_false, closed]
      rfl

/-- R124: the STREAK_CLOSE records of a changeover: each streak owns its entry. -/
theorem Engine.offersOf_closeStreaks {e : Engine} (side : Side) (bank : LaneBank) (reason : CloseReason)
    (owned : e.streaksOwned) :
    offersOf (.engine side) (e.closeStreaks side bank reason) = e.streakCloseRecords side bank reason := by
  rw [offersOf, Engine.closeStreaks, List.map_map, Engine.streakCloseRecords, ← List.filterMap_eq_map]
  refine List.filterMap_congr fun jb mem => ?_
  obtain ⟨listed, streak⟩ := List.mem_filter.mp mem
  obtain ⟨entry, held, own⟩ := owned.2 jb listed (of_decide_eq_true streak)
  obtain ⟨found, same⟩ : ∃ x, e.streaks.find? (fun x => x.bin = jb.1) = some x :=
    Option.isSome_iff_exists.mp (List.find?_isSome.mpr ⟨entry, held, decide_eq_true own⟩)
  simp only [Function.comp_apply, Engine.streakCloseRecord, Engine.streakIdentity, same, Option.map_some]
  rfl

/-- R64, R70: the records of a changeover at a take, under the bank in force. -/
def Engine.changeOffers (e : Engine) (side : Side) (bank : LaneBank) (position : Position) (w : SwitchRecord) :
    List Offer :=
  offersOf (.engine side)
    (closeBlobs side bank e.recipes PinholeFlags.mapChanged e.blobs ++ e.closeStreaks side bank .mapChange
      ++ [bankSwitchedRecord side position w])

/-- R64, R102, R124: those records are the PINHOLE records under the snapshot, the STREAK_CLOSE records and the
BANK_SWITCHED record. -/
theorem Engine.changeOffers_eq {e : Engine} (side : Side) (bank : LaneBank) (position : Position) (w : SwitchRecord)
    {former : Recipes} (snapshot : e.snapshot = some former ∨ e.blobs = []) (owned : e.streaksOwned) :
    e.changeOffers side bank position w
      = pinholeRecords side bank former false true e.blobs ++ e.streakCloseRecords side bank .mapChange
        ++ [plainOffer (.engine side)
            { side := some side, lane := none, position := position,
              content := .bankSwitched (w.target.get side) w.mode } none] := by
  have blobs : pinholeRecords side bank e.recipes false true e.blobs
      = pinholeRecords side bank former false true e.blobs := by
    rcases snapshot with taken | none_open
    · rw [Engine.recipes, taken]
      rfl
    · rw [none_open]
      rfl
  rw [Engine.changeOffers, offersOf, List.map_append, List.map_append, ← blobs, ← offersOf_closeBlobs,
    ← Engine.offersOf_closeStreaks side bank .mapChange owned]
  rfl

/-- R64, R70: the records of a changeover of a side at a take. -/
def State.takeOffers (s : State) (side : Side) (position : Position) (w : SwitchRecord) : List Offer :=
  (s.eng.get side).changeOffers side (s.activeBank side) position w

/-- These records join the record list of a side's engine. -/
def State.recorded (s : State) (side : Side) (offers : List Offer) : State :=
  s.withSide side { (s.eng.get side) with recordList := (s.eng.get side).recordList ++ offers } s.lanes

theorem State.recorded_engine (s : State) (side : Side) (offers : List Offer) :
    (s.recorded side offers).eng.get side
      = { (s.eng.get side) with recordList := (s.eng.get side).recordList ++ offers } := State.withSide_engine ..

/-- R64, R70: a changeover at a take: its records join the record list, and the side switches. -/
theorem State.changeOverAtTake_eq (s : State) (side : Side) (position : Position) (w : SwitchRecord) :
    s.changeOverAtTake side position w = (s.recorded side (s.takeOffers side position w)).switchSide side w := by
  simp only [State.changeOverAtTake, State.recorded, State.switchSide_withSide, State.modEng_eq, State.withSide_engine,
    State.withSide_lanes, State.withSide_withSide]
  rfl

/-! ### Serving arrivals (R67) -/

/-- R86: a running teach ends at an arrival. -/
theorem State.abortTeachAtSplice_eq (s : State) (side : Side) (position : Position) :
    s.abortTeachAtSplice side position
      = s.withSide side
          { (s.eng.get side) with
            teach := none
            recordList := (s.eng.get side).recordList ++ (s.eng.get side).abortRecords side .splice position }
          s.lanes := by
  cases running : (s.eng.get side).teach with
  | none =>
    simp only [State.abortTeachAtSplice, running, Engine.abortRecords, List.append_nil]
    rw [← running]
    exact (s.withSide_self side).symm
  | some t =>
    simp only [State.abortTeachAtSplice, running, Engine.abortRecords]
    rfl

/-- R67: the arrivals `reached` of a side have been served, and `left` are those behind them. -/
def State.arrivalsServed (s : State) (side : Side) (position : Position) (change : List Offer) (waits : Bool)
    (reached left : List ArrivalEntry) : State :=
  s.withSide side
    { (s.eng.get side) with
      teach := if reached = [] then (s.eng.get side).teach else none
      recordList :=
        (s.eng.get side).recordList
          ++ arrivalRecords side position change waits ((s.eng.get side).abortRecords side .splice position) reached }
    { s.lanes with arrivals := s.lanes.arrivals.set side left }

theorem State.arrivalsServed_nil (s : State) (side : Side) (position : Position) (change : List Offer) (waits : Bool)
    {left : List ArrivalEntry} (list : s.lanes.arrivals.get side = left) :
    s.arrivalsServed side position change waits [] left = s := by
  subst list
  simp only [State.arrivalsServed, if_true, arrivalRecords, List.append_nil, PerSide.set_get]
  exact s.withSide_self side

/-- R67: arrivals are served one after the other; the first ends a running teach, and the later ones find none. -/
theorem State.arrivalsServed_cons (s : State) (side : Side) (position : Position) (change : List Offer) (waits : Bool)
    (x : ArrivalEntry) (reached rest left : List ArrivalEntry) :
    (s.arrivalsServed side position change waits [x] rest).arrivalsServed side position change (waits && !x.attached)
        reached left
      = s.arrivalsServed side position change waits (x :: reached) left := by
  simp only [State.arrivalsServed, State.withSide_engine, State.withSide_lanes, State.withSide_withSide,
    PerSide.set_set, arrivalRecords, List.append_assoc, List.append_nil, ite_self, reduceCtorEq, if_false]
  rfl

/-- R64, R67: a changeover before arrivals that it does not depend on. -/
theorem State.arrivalsServed_switchSide (s : State) (side : Side) (position : Position) (change : List Offer)
    (waits : Bool) (reached left : List ArrivalEntry) (w : SwitchRecord) :
    (s.switchSide side w).arrivalsServed side position change waits reached left
      = (s.arrivalsServed side position change waits reached left).switchSide side w := by
  simp only [State.arrivalsServed, State.switchSide_withSide, State.withSide_engine, State.withSide_lanes,
    State.withSide_withSide]
  rfl

/-- R67: the arrivals served leave the records of a changeover as they are. -/
theorem State.takeOffers_arrivalsServed (s : State) (side : Side) (position : Position) (change : List Offer)
    (waits : Bool) (reached left : List ArrivalEntry) (w : SwitchRecord) :
    (s.arrivalsServed side position change waits reached left).takeOffers side position w
      = s.takeOffers side position w := by
  simp only [State.takeOffers, State.arrivalsServed, State.withSide_engine]
  rfl

/-- R67: an arrival entry is removed with its SPLICE_ARRIVED record. -/
def State.arrivalReported (s : State) (side : Side) (position : Position) (x : ArrivalEntry) (rest : List ArrivalEntry)
    (applied : Bool) : State :=
  s.withSide side
    ((s.eng.get side).addRecords side
      [({ side := some side, lane := none, position := x.arrival,
          content := .spliceArrived x.capture position applied }, none)])
    { s.lanes with arrivals := s.lanes.arrivals.set side rest }

theorem State.arrivalReported_eq (s : State) (side : Side) (position : Position) (x : ArrivalEntry)
    (rest : List ArrivalEntry) (applied : Bool) :
    (s.modLanes fun l => { l with arrivals := l.arrivals.set side rest }).modEng side
        (·.addRecords side
          [({ side := some side, lane := none, position := x.arrival,
              content := .spliceArrived x.capture position applied }, none)])
      = s.arrivalReported side position x rest applied := by
  rw [State.modLanes_eq s side, State.modEng_eq, State.withSide_withSide, State.withSide_engine]
  rfl

/-- R67: an arrival that changes no side over. -/
theorem State.serveArrival_kept {s : State} {side : Side} {x : ArrivalEntry} {waits : Bool} (position : Position)
    (change : List Offer) (rest : List ArrivalEntry) (none_due : x.attached = true → s.unswitched side = none)
    (unapplied : (x.attached && waits) = false) :
    s.serveArrival side position x rest = s.arrivalsServed side position change waits [x] rest := by
  have switch :
      (if x.attached = true then
        (s.modLanes fun l => { l with arrivals := l.arrivals.set side rest }).unswitched side else none) = none := by
    split
    case isTrue attached => exact none_due attached
    case isFalse => rfl
  have served : s.serveArrival side position x rest
      = (s.arrivalReported side position x rest false).abortTeachAtSplice side position := by
    simp only [State.serveArrival, switch, Option.isSome_none, State.arrivalReported_eq]
  rw [served, State.abortTeachAtSplice_eq]
  simp only [State.arrivalReported, State.withSide_engine, State.withSide_lanes, State.withSide_withSide,
    State.arrivalsServed, arrivalRecords, unapplied, Bool.false_eq_true, if_false, List.append_nil, reduceCtorEq]
  rw [← List.append_assoc]
  rfl

/-- R64, R67: an attached arrival of a side that waits. -/
theorem State.serveArrival_changes {s : State} {side : Side} {x : ArrivalEntry} {w : SwitchRecord} (position : Position)
    (rest : List ArrivalEntry) (attached : x.attached = true) (waits : s.unswitched side = some w) :
    s.serveArrival side position x rest
      = (s.arrivalsServed side position (s.takeOffers side position w) true [x] rest).switchSide side w := by
  have waits' : (s.modLanes fun l => { l with arrivals := l.arrivals.set side rest }).unswitched side = some w := waits
  have served : s.serveArrival side position x rest
      = ((s.arrivalReported side position x rest true).changeOverAtTake side position w).abortTeachAtSplice side
          position := by
    simp only [State.serveArrival, attached, if_true, waits', Option.isSome_some, State.arrivalReported_eq]
  have offers : (s.arrivalReported side position x rest true).takeOffers side position w
      = s.takeOffers side position w := by
    simp only [State.takeOffers, State.arrivalReported, State.withSide_engine]
    rfl
  rw [served, State.abortTeachAtSplice_eq, State.changeOverAtTake_eq, offers]
  simp only [State.switchSide_withSide, State.recorded, State.arrivalReported, State.withSide_engine,
    State.withSide_lanes, State.withSide_withSide, State.arrivalsServed, arrivalRecords, attached, Bool.and_self,
    if_true, if_false, List.append_nil, reduceCtorEq]
  rw [← List.append_assoc, ← List.append_assoc]
  rfl

/-! ### The arrivals up to the first one not reached (R67) -/

/-- R67: a line position has reached an arrival. -/
def ArrivalEntry.reachedAt (position : Position) (x : ArrivalEntry) : Bool := atOrAhead position x.arrival

/-- R67: the arrivals of a side that none of them changes over. -/
theorem State.serveArrivals_kept {s : State} {side : Side} {waits : Bool} (position : Position) (change : List Offer)
    (l : List ArrivalEntry) (list : s.lanes.arrivals.get side = l)
    (none_due :
      ∀ x ∈ l.takeWhile (·.reachedAt position), x.attached = true → s.unswitched side = none ∧ waits = false) :
    State.serveArrivals side position l s
      = s.arrivalsServed side position change waits (l.takeWhile (·.reachedAt position))
          (l.dropWhile (·.reachedAt position)) := by
  induction l generalizing s with
  | nil => exact (s.arrivalsServed_nil side position change waits list).symm
  | cons x rest ih =>
    by_cases reached : x.reachedAt position = true
    · rw [List.takeWhile_cons_of_pos reached] at none_due ⊢
      rw [List.dropWhile_cons_of_pos reached, ← s.arrivalsServed_cons side position change waits x _ rest]
      obtain ⟨first, later⟩ := List.forall_mem_cons.mp none_due
      have unapplied : (x.attached && waits) = false :=
        Bool.and_eq_false_imp.mpr fun attached => (first attached).2
      have still : (waits && !x.attached) = waits := by
        cases attached : x.attached with
        | false => exact Bool.and_true _
        | true => rw [(first attached).2]; rfl
      refine (if_pos reached).trans ?_
      rw [State.serveArrival_kept position change rest (fun attached => (first attached).1) unapplied, still]
      exact ih (PerSide.get_set_same ..) later
    · rw [List.takeWhile_cons_of_neg reached, List.dropWhile_cons_of_neg reached,
        State.arrivalsServed_nil _ _ _ _ _ list]
      exact if_neg reached

/-- R64, R67: a side that has switched waits no longer. -/
theorem State.unswitched_switchSide (s : State) (side : Side) (w : SwitchRecord) :
    (s.switchSide side w).unswitched side = none := by
  refine Option.eq_none_iff_forall_not_mem.mpr fun v waits => ?_
  obtain ⟨pending, unswitched⟩ := (State.unswitched_eq_some_iff _ side v).mp waits
  rw [← Option.some_inj.mp pending] at unswitched
  simp at unswitched

/-- R64, R67: the arrivals of a side that changes over at the first attached one reached. -/
theorem State.serveArrivals_attached {s : State} {side : Side} {w : SwitchRecord} (position : Position)
    (l : List ArrivalEntry) (list : s.lanes.arrivals.get side = l) (waits : s.unswitched side = some w)
    (due : ∃ x ∈ l.takeWhile (·.reachedAt position), x.attached = true) :
    State.serveArrivals side position l s
      = (s.arrivalsServed side position (s.takeOffers side position w) true (l.takeWhile (·.reachedAt position))
          (l.dropWhile (·.reachedAt position))).switchSide side w := by
  induction l generalizing s with
  | nil => simp at due
  | cons x rest ih =>
    by_cases reached : x.reachedAt position = true
    · rw [List.takeWhile_cons_of_pos reached] at due ⊢
      rw [List.dropWhile_cons_of_pos reached, ← s.arrivalsServed_cons side position _ true x _ rest]
      refine (if_pos reached).trans ?_
      cases attached : x.attached with
      | true =>
        rw [State.serveArrival_changes position rest attached waits]
        have none_waits := State.unswitched_switchSide
          (s.arrivalsServed side position (s.takeOffers side position w) true [x] rest) side w
        refine (State.serveArrivals_kept position _ rest ?_ fun _ _ _ => ⟨none_waits, rfl⟩).trans
          (State.arrivalsServed_switchSide ..)
        exact PerSide.get_set_same ..
      | false =>
        have later : ∃ y ∈ rest.takeWhile (·.reachedAt position), y.attached = true := by
          simpa [attached] using due
        rw [State.serveArrival_kept position (s.takeOffers side position w) rest (by simp [attached])
          (by rw [attached]; rfl : (x.attached && true) = false)]
        have others := ih (s := s.arrivalsServed side position (s.takeOffers side position w) true [x] rest)
          (PerSide.get_set_same ..) waits later
        rwa [State.takeOffers_arrivalsServed] at others
    · rw [List.takeWhile_cons_of_neg reached] at due
      simp at due

/-! ### The whole stage (R63) -/

/-- R63: a request that a side still waits for is not complete. -/
theorem State.completeSwitch_waiting {s : State} {side : Side} {w : SwitchRecord} (waits : s.unswitched side = some w) :
    s.completeSwitch = s := by
  obtain ⟨pending, unswitched⟩ := (s.unswitched_eq_some_iff side w).mp waits
  have open_request : (w.switched.top && w.switched.bottom) = false := by
    cases side with
    | top => exact Bool.and_eq_false_imp.mpr fun top => absurd top (by simpa [PerSide.get] using unswitched)
    | bottom => exact (congrArg _ unswitched).trans (Bool.and_false _)
  simp only [State.completeSwitch, pending, open_request, Bool.false_eq_true, if_false]

/-- R63, R64: the lane map after a changeover of a side, without a request that both sides have completed. -/
def LaneMap.completed (l : LaneMap) (side : Side) (w : SwitchRecord) : LaneMap :=
  { l.changedOver side w with
    switch :=
      if w.switched.set side true = { top := true, bottom := true } then none
      else some { w with switched := w.switched.set side true } }

theorem State.completeSwitch_switchSide (s : State) (side : Side) (w : SwitchRecord) :
    (s.switchSide side w).completeSwitch = s.withSide side (s.eng.get side).changedOver (s.lanes.completed side w) := by
  have both : ∀ v : PerSide Bool, (v.top && v.bottom) = true ↔ v = { top := true, bottom := true } := by
    rintro ⟨top, bottom⟩
    simp
  rw [State.completeSwitch_pending (s := s.switchSide side w) rfl]
  simp only [both]
  rfl

/-- R63: a request under which this side alone has switched is not complete. -/
theorem State.completeSwitch_other {s : State} {side : Side}
    (left :
      ∀ w, s.lanes.switch = some w → w.switched = ({ top := false, bottom := false } : PerSide Bool).set side true) :
    s.unswitched side = none ∧ s.completeSwitch = s := by
  cases pending : s.lanes.switch with
  | none => simp only [State.unswitched, State.completeSwitch, pending, and_self]
  | some w =>
    have switched := left w pending
    have waits_not : w.switched.get side = true := by rw [switched, PerSide.get_set_same]
    have incomplete : (w.switched.top && w.switched.bottom) = false := by
      rw [switched]
      cases side <;> rfl
    simp only [State.unswitched, State.completeSwitch, pending, waits_not, incomplete, if_true, Bool.false_eq_true,
      if_false, and_self]

/-- R67: the state when a take of this position has served the arrivals of a side. -/
def State.served (s : State) (side : Side) (position : Position) (change : List Offer) (waits : Bool) : State :=
  s.arrivalsServed side position change waits ((s.lanes.arrivals.get side).takeWhile (·.reachedAt position))
    ((s.lanes.arrivals.get side).dropWhile (·.reachedAt position))

/-- R63, R67: the stage of a side that no switch is left for. -/
theorem State.stageChangeover_idle {s : State} {side : Side} (position : Position)
    (left :
      ∀ w, s.lanes.switch = some w → w.switched = ({ top := false, bottom := false } : PerSide Bool).set side true) :
    s.stageChangeover side position = s.served side position [] false := by
  have idle := (State.completeSwitch_other left).1
  have serves : State.serveArrivals side position (s.lanes.arrivals.get side) s = s.served side position [] false :=
    State.serveArrivals_kept position [] _ rfl fun _ _ _ => ⟨idle, rfl⟩
  obtain ⟨idle', complete⟩ := State.completeSwitch_other (s := s.served side position [] false) (side := side) left
  simp only [State.stageChangeover, serves, idle', complete]

theorem SwitchRecord.reached_now {w : SwitchRecord} (side : Side) (position : Position) (mode : w.mode = .now) :
    w.reached side position = true := by
  simp only [SwitchRecord.reached, mode]

theorem SwitchRecord.reached_atPosition {w : SwitchRecord} (side : Side) (position : Position)
    (mode : w.mode = .atPosition) :
    w.reached side position = true ↔ ∃ at', w.position = some at' ∧ atOrAhead position at' = true := by
  simp only [SwitchRecord.reached, mode]
  cases w.position <;> simp

theorem SwitchRecord.reached_atSplice {w : SwitchRecord} (side : Side) (position : Position)
    (mode : w.mode = .atSplice) :
    w.reached side position = true ↔
      ∃ at' entered, w.position = some at' ∧ w.attached = some entered ∧ entered.get side = false
        ∧ atOrAhead position at' = true := by
  simp only [SwitchRecord.reached, mode]
  cases w.position <;> cases w.attached <;> simp

/-- R63, R64, R67: what the stage makes of a side that waits for a switch: an attached arrival changes it over, or the
condition of the request does behind the arrivals, or the side keeps waiting. -/
theorem State.stageChangeover_cases {s : State} {side : Side} {w : SwitchRecord} (position : Position)
    (waits : s.unswitched side = some w) :
    let reached := (s.lanes.arrivals.get side).takeWhile (·.reachedAt position)
    let offers := s.takeOffers side position w
    let served := s.served side position offers true
    ((∃ x ∈ reached, x.attached = true) ∧ s.stageChangeover side position = (served.switchSide side w).completeSwitch)
      ∨ (¬∃ x ∈ reached, x.attached = true)
        ∧ ((w.reached side position = true
              ∧ s.stageChangeover side position = ((served.recorded side offers).switchSide side w).completeSwitch)
            ∨ w.reached side position = false ∧ s.stageChangeover side position = served) := by
  intro reached offers served
  by_cases byArrival : ∃ x ∈ reached, x.attached = true
  · have serves : State.serveArrivals side position (s.lanes.arrivals.get side) s = served.switchSide side w :=
      State.serveArrivals_attached position _ rfl waits byArrival
    refine .inl ⟨byArrival, ?_⟩
    simp only [State.stageChangeover, serves, State.unswitched_switchSide]
  · have serves : State.serveArrivals side position (s.lanes.arrivals.get side) s = served :=
      State.serveArrivals_kept position offers _ rfl fun x mem attached => absurd ⟨x, mem, attached⟩ byArrival
    have waits' : served.unswitched side = some w := waits
    refine .inr ⟨byArrival, ?_⟩
    cases due : w.reached side position with
    | true =>
      refine .inl ⟨rfl, ?_⟩
      have same : served.takeOffers side position w = offers := State.takeOffers_arrivalsServed ..
      simp only [State.stageChangeover, serves, waits', due, if_true, State.changeOverAtTake_eq, same]
    | false =>
      refine .inr ⟨rfl, ?_⟩
      simp only [State.stageChangeover, serves, waits', due, Bool.false_eq_true, if_false,
        State.completeSwitch_waiting waits']

end Sys2Proof.Machine

open Sys2Proof Sys2Proof.Machine

/-- Settles O27: the stage's cases, read at the side's engine and at the lane map; the later stages add their records
behind. -/
theorem takeChangesSideOver : Obligations.TakeChangesSideOver := by
  intro s side line rest free unheld queue owned e entries isReached reached abort bank staged stays
  let u := s.beginLine side line rest
  have engine : u.eng.get side = { e with inFlight := some line, recordList := [] } := PerSide.get_set_same ..
  have serves : ∀ (change : List Offer) (waits : Bool),
      (u.served side line.position change waits).eng.get side
        = { e with
            inFlight := some line
            teach := if reached = [] then e.teach else none
            recordList := arrivalRecords side line.position change waits abort reached } := fun change waits => by
    rw [State.served, State.arrivalsServed, State.withSide_engine, engine]
    rfl
  have staged_of : ∀ v, u.stageChangeover side line.position = v → staged = v.eng.get side := fun v outcome =>
    congrArg (fun v : State => v.eng.get side) outcome
  obtain ⟨t, taken, lanes, (records : staged.recordList <+: _), (idle : staged.teach = none → _)⟩ :=
    exec_lineTake_after_changeover free unheld queue
  refine ⟨fun w former pending unswitched snapshot => ?_, fun left => ⟨t, taken, ?_⟩⟩
  · intro change due byArrival switched arrived
    refine ⟨t, taken, ?_⟩
    have waits : u.unswitched side = some w := (u.unswitched_eq_some_iff side w).mpr ⟨pending, unswitched⟩
    have offers : u.takeOffers side line.position w = change := by
      rw [State.takeOffers, engine]
      exact Engine.changeOffers_eq side bank line.position w snapshot owned
    have condition : w.reached side line.position = true ↔ due := by
      cases mode : w.mode with
      | now => simp only [due, mode, SwitchRecord.reached_now side line.position mode]
      | atPosition => simp only [due, mode, SwitchRecord.reached_atPosition side line.position mode]
      | atSplice => simp only [due, mode, SwitchRecord.reached_atSplice side line.position mode]
    rcases State.stageChangeover_cases line.position waits with
      ⟨attached, outcome⟩ | ⟨unattached, ⟨met, outcome⟩ | ⟨unmet, outcome⟩⟩
    · rw [State.completeSwitch_switchSide, offers] at outcome
      have stage := (staged_of _ outcome).trans (State.withSide_engine ..)
      rw [stage, serves] at records idle
      rw [lanes, stage, outcome]
      exact ⟨PerSide.get_set_same .., fun some_reached => idle (if_neg some_reached),
        fun _ => ⟨PerSide.get_set_same .., rfl, rfl, rfl, rfl⟩, fun _ => records,
        fun unattached => absurd attached unattached, fun unattached => absurd attached unattached⟩
    · rw [State.completeSwitch_switchSide, offers] at outcome
      have stage := (staged_of _ outcome).trans (State.withSide_engine ..)
      rw [stage, State.recorded_engine, serves] at records idle
      rw [lanes, stage, outcome]
      exact ⟨PerSide.get_set_same .., fun some_reached => idle (if_neg some_reached),
        fun _ => ⟨PerSide.get_set_same .., rfl, rfl, rfl, rfl⟩, fun attached => absurd attached unattached,
        fun _ _ => records, fun _ not_due => absurd (condition.mp met) not_due⟩
    · rw [offers] at outcome
      have stage := (staged_of _ outcome).trans (serves change true)
      have not_due : ¬due := fun met => by simp [condition.mpr met] at unmet
      rw [stage] at records idle
      rw [lanes, outcome]
      refine ⟨PerSide.get_set_same .., fun some_reached => idle (if_neg some_reached),
        fun some_due => absurd some_due (not_or.mpr ⟨unattached, not_due⟩), fun attached => absurd attached unattached,
        fun _ met => absurd met not_due, fun _ _ => ⟨records, rfl, pending, ?_⟩⟩
      simp only [stays, stage, and_self]
  · have outcome : u.stageChangeover side line.position = u.served side line.position [] false :=
      State.stageChangeover_idle line.position left
    have stage := (staged_of _ outcome).trans (serves [] false)
    rw [stage] at records idle
    rw [lanes, outcome]
    refine ⟨PerSide.get_set_same .., fun some_reached => idle (if_neg some_reached), records, rfl, rfl, ?_⟩
    simp only [stays, stage, and_self]
end

section
/-! SUPPORT. Lists indexed by column or bin: their indexes rise, and what they list is what they read as; the bins of a
side engine with their ranges, and the streak entries they own. -/

namespace Sys2Proof.Machine

variable {α : Type} [DecidableEq α]

/-! ### Lists indexed by column or bin (log 17) -/

theorem sparseWfFrom_mono (d : α) {low high : Nat} (le : low ≤ high) {m : List (Nat × α)}
    (wf : sparseWfFrom d high m = true) : sparseWfFrom d low m = true := by
  cases m with
  | nil => rfl
  | cons x rest =>
    simp only [sparseWfFrom, Bool.and_eq_true, decide_eq_true_eq] at wf ⊢
    obtain ⟨⟨first, value⟩, later⟩ := wf
    exact ⟨⟨le.trans first, value⟩, later⟩

/-- The indexes of a list in canonical form rise from the bound on. -/
theorem sparseWfFrom_low (d : α) {low : Nat} {m : List (Nat × α)} (wf : sparseWfFrom d low m = true) :
    ∀ x ∈ m, low ≤ x.1 := by
  induction m generalizing low with
  | nil => nofun
  | cons y rest ih =>
    simp only [sparseWfFrom, Bool.and_eq_true, decide_eq_true_eq] at wf
    obtain ⟨⟨first, -⟩, later⟩ := wf
    rintro x (_ | ⟨_, mem⟩)
    · exact first
    · have := ih later x mem
      omega

theorem sparseWfFrom_pairwise (d : α) {low : Nat} {m : List (Nat × α)} (wf : sparseWfFrom d low m = true) :
    m.Pairwise fun x y => x.1 < y.1 := by
  induction m generalizing low with
  | nil => exact .nil
  | cons x rest ih =>
    simp only [sparseWfFrom, Bool.and_eq_true, decide_eq_true_eq] at wf
    obtain ⟨-, later⟩ := wf
    exact .cons (fun y mem => sparseWfFrom_low d later y mem) (ih later)

/-- A list in canonical form reads at an index it lists as what it lists there. -/
theorem sparseGet_of_mem (d : α) {low : Nat} {m : List (Nat × α)} (wf : sparseWfFrom d low m = true) {x : Nat × α}
    (mem : x ∈ m) : sparseGet d m x.1 = x.2 := by
  induction m generalizing low with
  | nil => nomatch mem
  | cons y rest ih =>
    simp only [sparseWfFrom, Bool.and_eq_true, decide_eq_true_eq] at wf
    obtain ⟨-, later⟩ := wf
    rcases List.mem_cons.mp mem with rfl | mem
    · exact if_pos rfl
    · have above := sparseWfFrom_low d later x mem
      exact (if_neg (by omega)).trans (ih later mem)

/-- A list in canonical form lists no value equal to the one that an unlisted index reads as. -/
theorem sparseWfFrom_ne (d : α) {low : Nat} {m : List (Nat × α)} (wf : sparseWfFrom d low m = true) :
    ∀ x ∈ m, x.2 ≠ d := by
  induction m generalizing low with
  | nil => nofun
  | cons y rest ih =>
    simp only [sparseWfFrom, Bool.and_eq_true, decide_eq_true_eq] at wf
    obtain ⟨⟨-, value⟩, later⟩ := wf
    rintro x (_ | ⟨_, mem⟩)
    · exact value
    · exact ih later x mem

/-- Changing every value and leaving out those equal to `d` keeps the canonical form. -/
theorem sparseWfFrom_mapValues (d : α) (f : α → α) {low : Nat} {m : List (Nat × α)}
    (wf : sparseWfFrom d low m = true) :
    sparseWfFrom d low ((m.map fun x => (x.1, f x.2)).filter fun x => decide (x.2 ≠ d)) = true := by
  induction m generalizing low with
  | nil => rfl
  | cons x rest ih =>
    simp only [sparseWfFrom, Bool.and_eq_true, decide_eq_true_eq] at wf
    obtain ⟨⟨first, -⟩, later⟩ := wf
    rw [List.map_cons, List.filter_cons]
    split
    case isTrue kept =>
      simp only [sparseWfFrom, Bool.and_eq_true, decide_eq_true_eq]
      exact ⟨⟨first, of_decide_eq_true kept⟩, ih later⟩
    case isFalse => exact sparseWfFrom_mono d (first.trans (Nat.le_succ _)) (ih later)

/-! ### The ranges of bins (R112) -/

/-- R112: an accumulator in its range. -/
def AccumulatorFits (s : Int) : Prop := -4080 ≤ s ∧ s ≤ 4080

/-- R112: a bin whose accumulator and peak are in their range. -/
def Bin.Fits (b : Bin) : Prop := AccumulatorFits b.s ∧ AccumulatorFits b.peak

theorem Engine.accumulatorsInRange_iff (e : Engine) : e.accumulatorsInRange ↔ ∀ jb ∈ e.bins, jb.2.Fits :=
  forall₂_congr fun _ _ => and_assoc.symm

theorem accumulatorFits_zero : AccumulatorFits 0 := ⟨by decide, by decide⟩

theorem Bin.quiet_fits {s : Int} (fits : AccumulatorFits s) : (Bin.quiet s).Fits := ⟨fits, accumulatorFits_zero⟩

theorem Bin.hold_fits {b : Bin} {s : Int} (position : Position) (bin : b.Fits) (fits : AccumulatorFits s) :
    (b.hold s position).Fits := by
  refine ⟨fits, ?_⟩
  simp only [Bin.hold]
  split
  · exact fits
  · exact bin.2

theorem Engine.bin_fits {e : Engine} (fits : e.accumulatorsInRange) (j : Nat) : (e.bin j).Fits := by
  rcases sparseGet_mem (Bin.quiet 0) e.bins j with unlisted | listed
  · rw [Engine.bin, unlisted]
    exact Bin.quiet_fits accumulatorFits_zero
  · exact e.accumulatorsInRange_iff.mp fits _ listed

/-- R111, R112: the accumulator moves toward 16 times the difference of two grey values, and not past it. -/
theorem accumulate_fits (shift : Nat) {s : Int} {a m : Nat} (fits : AccumulatorFits s) (average : a ≤ 255)
    (mean : m ≤ 255) : AccumulatorFits (accumulate shift s ((a : Int) - (m : Int))) := by
  obtain ⟨low, high⟩ := fits
  have positive : (0 : Int) < 2 ^ shift := by positivity
  have above : (16 * ((a : Int) - m) - s) / 2 ^ shift ≤ max 0 (16 * ((a : Int) - m) - s) := by
    refine Int.ediv_le_of_le_mul positive ?_
    nlinarith [le_max_left 0 (16 * ((a : Int) - m) - s), le_max_right 0 (16 * ((a : Int) - m) - s)]
  have below : min 0 (16 * ((a : Int) - m) - s) ≤ (16 * ((a : Int) - m) - s) / 2 ^ shift := by
    refine Int.le_ediv_of_mul_le positive ?_
    nlinarith [min_le_left 0 (16 * ((a : Int) - m) - s), min_le_right 0 (16 * ((a : Int) - m) - s)]
  constructor <;> simp only [accumulate] <;> omega

/-! ### What stage 6 does to the bins (R114 to R120) -/

/-- The engine without its bins, its streak table and its records. -/
def Engine.besidesBins (e : Engine) : Engine := { e with bins := [], streaks := [], recordList := [] }

/-- What stage 6 may do to an engine: it changes the bins, the streak table and the record list alone, keeps the
accumulators in their range, and the bins in STREAK owners of entries. -/
structure Engine.BinsMove (e f : Engine) : Prop where
  rest : f.besidesBins = e.besidesBins
  accumulators : e.accumulatorsInRange → f.accumulatorsInRange
  owned : e.streaksOwned → f.streaksOwned

theorem Engine.BinsMove.refl (e : Engine) : e.BinsMove e := ⟨rfl, id, id⟩

theorem Engine.BinsMove.trans {e f g : Engine} (h : e.BinsMove f) (k : f.BinsMove g) : e.BinsMove g :=
  ⟨k.rest.trans h.rest, k.accumulators ∘ h.accumulators, k.owned ∘ h.owned⟩

/-- R118: an engine that differs in its records and in the streak entries of one bin alone. -/
structure Engine.FreesEntry (e f : Engine) (j : Nat) : Prop where
  rest : f.besidesBins = e.besidesBins
  bins : f.bins = e.bins
  streaks : ∀ entry ∈ e.streaks, entry.bin ≠ j → entry ∈ f.streaks

theorem Engine.FreesEntry.refl (e : Engine) (j : Nat) : e.FreesEntry e j := ⟨rfl, rfl, fun _ mem _ => mem⟩

/-- A bin is written: its values are in range, and it owns an entry if it is in STREAK. -/
theorem Engine.BinsMove.of_write {e f : Engine} {j : Nat} {b : Bin} (frees : e.FreesEntry f j)
    {g : Engine} (rest : g.besidesBins = f.besidesBins) (bins : g.bins = (f.setBin j b).bins)
    (streaks : ∀ entry ∈ f.streaks, entry ∈ g.streaks) (fits : e.accumulatorsInRange → b.Fits)
    (owns : e.streaksOwned → b.state = .streak → ∃ entry ∈ g.streaks, entry.bin = j) : e.BinsMove g := by
  have written : g.bins = sparseSet (Bin.quiet 0) e.bins j b := by rw [bins, Engine.setBin, frees.bins]
  refine ⟨rest.trans frees.rest, fun inRange => ?_, fun owned => ?_⟩
  · rw [Engine.accumulatorsInRange_iff, written]
    intro jb mem
    rcases mem_sparseSet _ _ _ _ _ mem with rfl | listed
    · exact fits inRange
    · exact e.accumulatorsInRange_iff.mp inRange jb listed
  · obtain ⟨wf, owners⟩ := owned
    have wf' := sparseWf_sparseSet (Bin.quiet 0) e.bins j b wf
    refine ⟨written ▸ wf', fun jb mem streak => ?_⟩
    rw [written] at mem
    have read := sparseGet_of_mem _ wf' mem
    rw [sparseGet_sparseSet _ _ 0 _ _ _ wf] at read
    split at read
    case isTrue here =>
      rw [here]
      exact owns ⟨wf, owners⟩ (read ▸ streak)
    case isFalse other =>
      rcases mem_sparseSet _ _ _ _ _ mem with rfl | listed
      · exact absurd rfl other
      · obtain ⟨entry, held, own⟩ := owners jb listed streak
        exact ⟨entry, streaks entry (frees.streaks entry held (own ▸ other)), own⟩

theorem Engine.setBin_moves {e f : Engine} {j : Nat} {b : Bin} (frees : e.FreesEntry f j)
    (fits : e.accumulatorsInRange → b.Fits) (unconfirmed : b.state ≠ .streak) : e.BinsMove (f.setBin j b) :=
  .of_write frees rfl rfl (fun _ => id) fits fun _ streak => absurd streak unconfirmed

/-- R115, R116: a candidate that is confirmed owns the entry it takes. -/
theorem Engine.confirm_moves {e f : Engine} {x : BinContext} {b : Bin} (frees : e.FreesEntry f x.index)
    (fits : e.accumulatorsInRange → b.Fits) (unconfirmed : b.state ≠ .streak) : e.BinsMove (f.confirm x b) := by
  unfold Engine.confirm
  split
  case isFalse => exact Engine.setBin_moves frees fits unconfirmed
  case isTrue =>
    split
    case isTrue =>
      refine .of_write (b := { b with state := .streak, waiting := false, sinceReport := 0 }) frees rfl rfl
        (fun entry mem => List.mem_append_left _ mem) fits fun _ _ => ?_
      exact ⟨_, List.mem_append_right _ (List.mem_singleton_self _), rfl⟩
    case isFalse =>
      exact .of_write (b := { b with waiting := true }) frees rfl rfl (fun _ => id) fits
        fun _ streak => absurd streak unconfirmed

theorem Engine.quietBin_moves {e f : Engine} {x : BinContext} {s : Int} (frees : e.FreesEntry f x.index)
    (fits : e.accumulatorsInRange → AccumulatorFits s) : e.BinsMove (f.quietBin x s) := by
  have quiet : e.BinsMove (f.setBin x.index (Bin.quiet s)) :=
    Engine.setBin_moves frees (fun inRange => Bin.quiet_fits (fits inRange)) nofun
  unfold Engine.quietBin
  split
  · exact quiet
  · split
    · exact Engine.confirm_moves frees (fun inRange => ⟨fits inRange, fits inRange⟩) nofun
    · exact quiet

/-- R117, R118: a streak that holds keeps its entry; one that ends gives it back. -/
theorem Engine.streakBin_moves (e : Engine) (x : BinContext) {s : Int} (streak : (e.bin x.index).state = .streak)
    (fits : e.accumulatorsInRange → AccumulatorFits s) : e.BinsMove (e.streakBin x (e.bin x.index) s) := by
  have owns : e.streaksOwned → ∃ entry ∈ e.streaks, entry.bin = x.index := by
    rintro ⟨-, owners⟩
    rcases sparseGet_mem (Bin.quiet 0) e.bins x.index with unlisted | listed
    · rw [Engine.bin, unlisted] at streak
      nomatch streak
    · exact owners _ listed streak
  have held (n : Nat) : e.accumulatorsInRange →
      { (e.bin x.index).hold s x.position with sinceReport := n }.Fits := fun inRange =>
    Bin.hold_fits x.position (Engine.bin_fits inRange x.index) (fits inRange)
  unfold Engine.streakBin
  split
  · simp only
    split
    · exact .of_write (.refl e x.index) rfl rfl (fun _ => id) (held _) fun owned _ => owns owned
    · exact .of_write (.refl e x.index) rfl rfl (fun _ => id) (held _) fun owned _ => owns owned
  · exact Engine.quietBin_moves ⟨rfl, rfl, fun entry mem other => List.mem_filter.mpr ⟨mem, by simpa using other⟩⟩ fits

theorem Engine.transition_moves (e : Engine) (x : BinContext) {s : Int}
    (fits : e.accumulatorsInRange → AccumulatorFits s) : e.BinsMove (e.transition x s) := by
  simp only [Engine.transition]
  split
  case h_1 => exact Engine.quietBin_moves (.refl e _) fits
  case h_2 candidate =>
    unfold Engine.candidateBin
    split
    · refine Engine.confirm_moves (.refl e _) (fun inRange => ?_) (by simp [Bin.hold, candidate])
      exact Bin.hold_fits x.position (Engine.bin_fits inRange x.index) (fits inRange)
    · exact Engine.quietBin_moves (.refl e _) fits
  case h_3 streak => exact e.streakBin_moves x streak fits

end Sys2Proof.Machine
end

section
/-! SUPPORT. What the stages of a line operation make of a side engine: the lane means (R79), the bins (R109 to R120), the
calibration table (R83), and what each stage leaves as it was. -/

namespace Sys2Proof.Machine

/-! ### Stage 3 (R76) -/

theorem correctedValue_le (r d g : Nat) : correctedValue r d g ≤ 255 := Nat.min_le_left ..

theorem Engine.correct_le (e : Engine) (cols : List (Nat × Byte)) : ∀ c ∈ e.correct cols, c.2 ≤ 255 := by
  rintro c mem
  obtain ⟨raw, -, rfl⟩ := List.mem_map.mp mem
  exact correctedValue_le ..

/-! ### Stage 4 (R79, R80) -/

/-- A mean of values is no greater than a bound of them. -/
theorem sum_div_length_le {bound : Nat} (values : List Nat) (le : ∀ v ∈ values, v ≤ bound) :
    values.sum / values.length ≤ bound :=
  Nat.div_le_of_le_mul ((List.sum_le_card_nsmul values bound le).trans_eq (smul_eq_mul ..))

/-- Elements of a vector that are replaced by a function of their index. -/
theorem foldl_set_get {α : Type} {n : Nat} (f : Fin n → α) (l : List (Fin n)) (v : Vector α n) (i : Fin n) :
    (l.foldl (fun (v : Vector α n) (j : Fin n) => v.set j (f j)) v)[i] = if i ∈ l then f i else v[i] := by
  induction l generalizing v with
  | nil => simp
  | cons j rest ih =>
    rw [List.foldl_cons, ih]
    by_cases later : i ∈ rest
    · simp [later]
    · by_cases here : i = j
      · subst here
        simp [later]
      · have apart : (j : Nat) ≠ i := fun same => here (Fin.ext same.symm)
        simp [later, here, apart]

theorem Engine.stageLevels_get (e : Engine) (bank : LaneBank) (cols : List (Nat × Nat)) (i : LaneId) :
    (e.stageLevels bank cols).laneLevels[i] = laneLevel bank[i] cols := by
  simp only [Engine.stageLevels, foldl_set_get (fun l : LaneId => laneLevel bank[l] cols), mem_allLanes, if_true]

/-- R79: the means of the lanes are grey values. -/
def Engine.MeansFit (e : Engine) : Prop := ∀ (i : LaneId) (m : Nat), e.laneLevels[i] = .mean m → m ≤ 255

theorem Engine.MeansFit.of_levels {e f : Engine} (means : e.MeansFit) (same : f.laneLevels = e.laneLevels) :
    f.MeansFit := by
  rw [Engine.MeansFit, same]
  exact means

theorem Engine.stageLevels_meansFit (e : Engine) (bank : LaneBank) {cols : List (Nat × Nat)}
    (grey : ∀ c ∈ cols, c.2 ≤ 255) : (e.stageLevels bank cols).MeansFit := by
  intro i m mean
  rw [Engine.stageLevels_get] at mean
  simp only [laneLevel] at mean
  split at mean
  · split at mean
    · nomatch mean
    · cases mean
      refine sum_div_length_le _ fun v mem => ?_
      obtain ⟨c, listed, rfl⟩ := List.mem_map.mp mem
      exact grey c (List.mem_filter.mp listed).1
  · nomatch mean

/-! ### Stage 5 (R88 to R100) -/

/-- The engine without what stage 5 works on. -/
def Engine.besidesBlobs (e : Engine) : Engine :=
  { e with blobs := [], runList := [], runsDropped := 0, blobDrops := 0, recordList := [] }

theorem Engine.stagePinholes_rest (e : Engine) (side : Side) (position : Position) (bank : LaneBank) (recipes : Recipes)
    (cols : List (Nat × Nat)) :
    (e.stagePinholes side position bank recipes cols).besidesBlobs = e.besidesBlobs := rfl

theorem Engine.stagePinholes_laneLevels (e : Engine) (side : Side) (position : Position) (bank : LaneBank)
    (recipes : Recipes) (cols : List (Nat × Nat)) :
    (e.stagePinholes side position bank recipes cols).laneLevels = e.laneLevels := rfl

/-- R90: the run list is discarded when the stage ends. -/
theorem Engine.stagePinholes_runList (e : Engine) (side : Side) (position : Position) (bank : LaneBank)
    (recipes : Recipes) (cols : List (Nat × Nat)) :
    (e.stagePinholes side position bank recipes cols).runList = [] := rfl

/-! ### Stage 6 (R109 to R120) -/

theorem binValues_le {cols : List (Nat × Nat)} (grey : ∀ c ∈ cols, c.2 ≤ 255) (w j : Nat) :
    ∀ v ∈ binValues cols w j, v ≤ 255 := by
  intro v mem
  obtain ⟨c, listed, rfl⟩ := List.mem_map.mp mem
  exact grey c (List.mem_filter.mp listed).1

theorem stepBin_moves (side : Side) (position : Position) (bank : LaneBank) (recipes : Recipes)
    {cols : List (Nat × Nat)} (grey : ∀ c ∈ cols, c.2 ≤ 255) {e : Engine} (means : e.MeansFit) (jl : Nat × LaneId) :
    e.BinsMove (stepBin side position bank recipes cols e jl) := by
  simp only [stepBin]
  split
  case h_1 m mean =>
    split
    case isTrue whole =>
      refine e.transition_moves _ fun inRange => ?_
      refine accumulate_fits _ (Engine.bin_fits inRange _).1 ?_ (means _ m mean)
      simpa only [whole] using sum_div_length_le _ (binValues_le grey e.binWidth jl.1)
    case isFalse => exact .refl e
  case h_2 => exact .refl e

theorem Engine.BinsMove.laneLevels {e f : Engine} (h : e.BinsMove f) : f.laneLevels = e.laneLevels :=
  calc f.laneLevels = f.besidesBins.laneLevels := rfl
    _ = e.laneLevels := by rw [h.rest]; rfl

theorem Engine.BinsMove.cal {e f : Engine} (h : e.BinsMove f) : f.cal = e.cal :=
  calc f.cal = f.besidesBins.cal := rfl
    _ = e.cal := by rw [h.rest]; rfl

theorem Engine.BinsMove.meansFit {e f : Engine} (h : e.BinsMove f) (means : e.MeansFit) : f.MeansFit :=
  means.of_levels h.laneLevels

theorem foldl_stepBin_moves (side : Side) (position : Position) (bank : LaneBank) (recipes : Recipes)
    {cols : List (Nat × Nat)} (grey : ∀ c ∈ cols, c.2 ≤ 255) {e : Engine} (means : e.MeansFit)
    (l : List (Nat × LaneId)) : e.BinsMove (l.foldl (stepBin side position bank recipes cols) e) := by
  induction l generalizing e with
  | nil => exact .refl e
  | cons jl rest ih =>
    have moves := stepBin_moves side position bank recipes grey means jl
    exact moves.trans (ih (moves.meansFit means))

/-- R109: the bins that are not evaluated are held QUIET. -/
theorem Engine.quietUnevaluated_moves (e : Engine) (bank : LaneBank) : e.BinsMove (e.quietUnevaluated bank) := by
  refine ⟨rfl, fun inRange => ?_, fun ⟨wf, owners⟩ => ⟨sparseWfFrom_filter _ _ _ 0 wf, ?_⟩⟩
  · exact fun jb mem => inRange jb (List.mem_of_mem_filter mem)
  · exact fun jb mem => owners jb (List.mem_of_mem_filter mem)

theorem Engine.stageStreaks_moves {e : Engine} (side : Side) (position : Position) (bank : LaneBank) (recipes : Recipes)
    {cols : List (Nat × Nat)} (grey : ∀ c ∈ cols, c.2 ≤ 255) (means : e.MeansFit) :
    e.BinsMove (e.stageStreaks side position bank recipes cols) := by
  have quieted := e.quietUnevaluated_moves bank
  exact quieted.trans (foldl_stepBin_moves side position bank recipes grey (quieted.meansFit means) _)

/-! ### Values in range (R77, R112, R115, R119) -/

/-- What is in range in one engine is so in the other. -/
structure Engine.KeepsRanges (e f : Engine) : Prop where
  calibration : e.calibrationInRange → f.calibrationInRange
  accumulators : e.accumulatorsInRange → f.accumulatorsInRange
  owned : e.streaksOwned → f.streaksOwned

theorem Engine.KeepsRanges.trans {e f g : Engine} (h : e.KeepsRanges f) (k : f.KeepsRanges g) : e.KeepsRanges g :=
  ⟨k.calibration ∘ h.calibration, k.accumulators ∘ h.accumulators, k.owned ∘ h.owned⟩

/-- An engine with the same tables, or with a new array of bins. -/
theorem Engine.KeepsRanges.of_tables {e f : Engine} (cal : f.cal = e.cal)
    (bins : f.bins = e.bins ∧ f.streaks = e.streaks ∨ f.bins = []) : e.KeepsRanges f := by
  refine ⟨by simp only [Engine.calibrationInRange, cal, imp_self], ?_, ?_⟩
  · rcases bins with ⟨bins, -⟩ | bins <;> simp [Engine.accumulatorsInRange, bins]
  · rcases bins with ⟨bins, streaks⟩ | bins
    · simp only [Engine.streaksOwned, bins, streaks, imp_self]
    · rw [Engine.streaksOwned, Engine.streaksOwned, bins]
      exact fun _ => ⟨rfl, nofun⟩

theorem Engine.KeepsRanges.of_eq {e f : Engine} (cal : f.cal = e.cal) (bins : f.bins = e.bins)
    (streaks : f.streaks = e.streaks) : e.KeepsRanges f := .of_tables cal (.inl ⟨bins, streaks⟩)

theorem Engine.KeepsRanges.refl (e : Engine) : e.KeepsRanges e := .of_eq rfl rfl rfl

theorem Engine.BinsMove.keepsRanges {e f : Engine} (h : e.BinsMove f) : e.KeepsRanges f :=
  ⟨fun inRange => by
    rw [Engine.calibrationInRange, h.cal]
    exact inRange, h.accumulators, h.owned⟩

/-! ### The calibration table (R77, R83) -/

/-- R77: an entry of a calibration table in its ranges. -/
def CalEntry.Fits (c : CalEntry) : Prop := c.dark ≤ 255 ∧ c.gain ≤ 8191

theorem Engine.calEntry_fits {e : Engine} (inRange : e.calibrationInRange) (column : Nat) : (e.calEntry column).Fits := by
  rcases sparseGet_mem CalEntry.unity e.cal column with unlisted | listed
  · rw [Engine.calEntry, unlisted]
    exact ⟨by decide, by decide⟩
  · exact inRange.2 _ listed

theorem Engine.setCalEntry_keeps (e : Engine) (column : Nat) {c : CalEntry} (fits : e.calibrationInRange → c.Fits) :
    e.KeepsRanges (e.setCalEntry column c) := by
  refine ⟨fun inRange => ⟨sparseWf_sparseSet _ _ _ _ inRange.1, fun x mem => ?_⟩, id, id⟩
  rcases mem_sparseSet _ _ _ _ _ mem with rfl | listed
  · exact fits inRange
  · exact inRange.2 x listed

/-- R78: the entries of a SET_CAL, whose dark values are bytes. -/
theorem Engine.writeCal_keeps (entries : List (Nat × Nat)) (dark : ∀ x ∈ entries, x.1 ≤ 255) (column : Nat)
    (e : Engine) : e.KeepsRanges (e.writeCal column entries) := by
  induction entries generalizing column e with
  | nil => exact .refl e
  | cons x rest ih =>
    obtain ⟨first, later⟩ := List.forall_mem_cons.mp dark
    exact (e.setCalEntry_keeps column fun _ => ⟨first, Nat.min_le_left ..⟩).trans (ih later _ _)

/-- R83: the gain of a taught column is written. -/
def Engine.teachGain (target : Nat) (e : Engine) (c : Nat × TeachColumn) : Engine :=
  e.setCalEntry c.1 { (e.calEntry c.1) with gain := taughtGain target c.2 }

theorem Engine.finishTeach_eq (e : Engine) (side : Side) (position : Position) (t : Teach) :
    e.finishTeach side position t
      = { t.taughtColumns.foldl (Engine.teachGain t.target) e with teach := none }.addRecords side
          [({ side := some side, lane := none, position := position,
              content := .teachDone t.n t.target t.taughtColumns.length (Config.columns - t.taughtColumns.length) },
            none)] := rfl

theorem taughtGain_le (target : Nat) (c : TeachColumn) : taughtGain target c ≤ 8191 := by
  simp only [taughtGain]
  split
  · exact le_rfl
  · exact Nat.min_le_left ..

theorem Engine.foldl_teachGain_keeps (target : Nat) (l : List (Nat × TeachColumn)) (e : Engine) :
    e.KeepsRanges (l.foldl (Engine.teachGain target) e) := by
  induction l generalizing e with
  | nil => exact .refl e
  | cons c rest ih =>
    refine (e.setCalEntry_keeps c.1 fun inRange => ?_).trans (ih _)
    exact ⟨(Engine.calEntry_fits inRange c.1).1, taughtGain_le target c.2⟩

theorem Engine.stageTeach_keeps (e : Engine) (side : Side) (position : Position) (cols : List (Nat × Byte)) :
    e.KeepsRanges (e.stageTeach side position cols) := by
  unfold Engine.stageTeach
  split
  · exact .refl e
  · simp only
    split
    · rw [Engine.finishTeach_eq]
      exact (Engine.foldl_teachGain_keeps _ _ e).trans (.of_eq rfl rfl rfl)
    · exact .of_eq rfl rfl rfl

/-! ### The whole operation (R72, R73) -/

theorem Engine.stageLevels_keeps (e : Engine) (bank : LaneBank) (cols : List (Nat × Nat)) :
    e.KeepsRanges (e.stageLevels bank cols) := by
  refine .of_eq ?_ ?_ ?_ <;> simp only [Engine.stageLevels]

theorem Engine.stagePinholes_keeps (e : Engine) (side : Side) (position : Position) (bank : LaneBank)
    (recipes : Recipes) (cols : List (Nat × Nat)) :
    e.KeepsRanges (e.stagePinholes side position bank recipes cols) := .of_eq rfl rfl rfl

theorem Engine.inspect_keeps (e : Engine) (side : Side) (position : Position) (bank : LaneBank) (recipes : Recipes)
    (cols : List (Nat × Byte)) : e.KeepsRanges (e.inspect side position bank recipes cols) := by
  simp only [Engine.inspect]
  have grey := e.correct_le cols
  generalize e.correct cols = corrected at grey ⊢
  have means := e.stageLevels_meansFit bank grey
  have levels := e.stageLevels_keeps bank corrected
  generalize e.stageLevels bank corrected = f at means levels ⊢
  refine (levels.trans (f.stagePinholes_keeps side position bank recipes corrected)).trans ?_
  exact (Engine.stageStreaks_moves side position bank recipes grey
    (means.of_levels (f.stagePinholes_laneLevels ..))).keepsRanges

theorem Engine.dropPasses_keeps (side : Side) (position : Position) (bank : LaneBank) (recipes : Recipes) (n : Nat)
    (e : Engine) : e.KeepsRanges (e.dropPasses side position bank recipes n) := by
  induction n generalizing e with
  | zero => exact .refl e
  | succ n ih => exact (e.inspect_keeps side position bank recipes []).trans (ih _)

theorem Engine.runLine_keeps (e : Engine) (side : Side) (bank : LaneBank) (recipes : Recipes) (line : LineEntry) :
    e.KeepsRanges (e.runLine side bank recipes line) :=
  ((e.dropPasses_keeps side line.position bank recipes _).trans
    (Engine.inspect_keeps _ side line.position bank recipes line.cols)).trans
    (Engine.stageTeach_keeps _ side line.position line.cols)

end Sys2Proof.Machine
end

section
/-! SUPPORT. The changeover stage of a take (R63 to R67): what it leaves of the side's engine and of the lane map, and that
it changes nothing beyond them. -/

namespace Sys2Proof.Machine

/-! ### One engine and the lane map -/

/-- The engine without what a changeover and an arrival change. -/
def Engine.besidesChangeover (e : Engine) : Engine :=
  { e with teach := none, recordList := [], blobs := [], bins := [], streaks := [] }

/-- R74: the records of an engine's line operation are its own. -/
def Engine.OwnRecords (side : Side) (e : Engine) : Prop := ∀ o ∈ e.recordList, o.writer = .engine side ∧ o.step = none

theorem Engine.OwnRecords.addRecords {side : Side} {e : Engine} (own : e.OwnRecords side) (made : List Made) :
    (e.addRecords side made).OwnRecords side := by
  intro o mem
  rcases List.mem_append.mp mem with former | added
  · exact own o former
  · obtain ⟨m, -, rfl⟩ := List.mem_map.mp added
    exact ⟨rfl, rfl⟩

/-- What the changeover stage may do to the engine of its side. -/
structure Engine.Changeover (side : Side) (e f : Engine) : Prop where
  rest : f.besidesChangeover = e.besidesChangeover
  teach : e.teach = none → f.teach = none
  records : e.OwnRecords side → f.OwnRecords side
  bins : f.bins = e.bins ∧ f.streaks = e.streaks ∨ f.bins = []

/-- What the changeover stage of a side may do to the lane map. -/
structure LaneMap.Changeover (side : Side) (l m : LaneMap) : Prop where
  recipes : m.recipes = l.recipes
  banks : m.banks = l.banks
  active : ∀ other, other ≠ side → m.active.get other = l.active.get other
  arrivals : ∀ other, other ≠ side → m.arrivals.get other = l.arrivals.get other

theorem Engine.Changeover.refl (side : Side) (e : Engine) : e.Changeover side e := ⟨rfl, id, id, .inl ⟨rfl, rfl⟩⟩

theorem Engine.Changeover.trans {side : Side} {e f g : Engine} (h : e.Changeover side f) (k : f.Changeover side g) :
    e.Changeover side g := by
  refine ⟨k.rest.trans h.rest, k.teach ∘ h.teach, k.records ∘ h.records, ?_⟩
  rcases k.bins with ⟨bins, streaks⟩ | bins
  · rw [bins, streaks]
    exact h.bins
  · exact .inr bins

theorem Engine.Changeover.addRecords (side : Side) (e : Engine) (made : List Made) :
    e.Changeover side (e.addRecords side made) := ⟨rfl, id, fun own => own.addRecords made, .inl ⟨rfl, rfl⟩⟩

theorem Engine.Changeover.changedOver (side : Side) (e : Engine) : e.Changeover side e.changedOver :=
  ⟨rfl, id, id, .inr rfl⟩

theorem Engine.Changeover.teachEnded (side : Side) (e : Engine) : e.Changeover side { e with teach := none } :=
  ⟨rfl, fun _ => rfl, id, .inl ⟨rfl, rfl⟩⟩

theorem Engine.Changeover.keepsRanges {side : Side} {e f : Engine} (h : e.Changeover side f) : e.KeepsRanges f :=
  .of_tables
    (calc f.cal = f.besidesChangeover.cal := rfl
      _ = e.cal := by rw [h.rest]; rfl)
    h.bins

theorem LaneMap.Changeover.refl (side : Side) (l : LaneMap) : l.Changeover side l :=
  ⟨rfl, rfl, fun _ _ => rfl, fun _ _ => rfl⟩

theorem LaneMap.Changeover.trans {side : Side} {l m n : LaneMap} (h : l.Changeover side m) (k : m.Changeover side n) :
    l.Changeover side n :=
  ⟨k.recipes.trans h.recipes, k.banks.trans h.banks, fun other ne => (k.active other ne).trans (h.active other ne),
    fun other ne => (k.arrivals other ne).trans (h.arrivals other ne)⟩

theorem LaneMap.Changeover.changedOver (side : Side) (l : LaneMap) (w : SwitchRecord) :
    l.Changeover side (l.changedOver side w) :=
  ⟨rfl, rfl, fun _ ne => PerSide.get_set_ne _ _ ne, fun _ _ => rfl⟩

/-! ### The whole state -/

/-- What the changeover stage of a side may do to the part. -/
def State.Changeover (side : Side) (s t : State) : Prop :=
  ∃ e l, t = s.withSide side e l ∧ (s.eng.get side).Changeover side e ∧ s.lanes.Changeover side l

theorem State.Changeover.refl (side : Side) (s : State) : s.Changeover side s :=
  ⟨_, _, (s.withSide_self side).symm, .refl .., .refl ..⟩

theorem State.Changeover.trans {side : Side} {s t u : State} (h : s.Changeover side t) (k : t.Changeover side u) :
    s.Changeover side u := by
  obtain ⟨e, l, rfl, engine, lanes⟩ := h
  obtain ⟨f, m, rfl, engine', lanes'⟩ := k
  rw [State.withSide_engine] at engine'
  exact ⟨f, m, State.withSide_withSide .., engine.trans engine', lanes.trans lanes'⟩

/-- A change of the side's engine alone. -/
theorem State.Changeover.of_engine {side : Side} (s : State) {f : Engine → Engine}
    (engine : (s.eng.get side).Changeover side (f (s.eng.get side))) : s.Changeover side (s.modEng side f) :=
  ⟨_, _, s.modEng_eq side f, engine, .refl ..⟩

/-- A change of the lane map alone. -/
theorem State.Changeover.of_lanes {side : Side} (s : State) {f : LaneMap → LaneMap}
    (lanes : s.lanes.Changeover side (f s.lanes)) : s.Changeover side (s.modLanes f) :=
  ⟨_, _, s.modLanes_eq side f, .refl .., lanes⟩

theorem State.Changeover.addRecords (side : Side) (s : State) (made : List Made) :
    s.Changeover side (s.modEng side (·.addRecords side made)) := .of_engine s (.addRecords ..)

theorem State.changeOverAtTake_changeover (s : State) (side : Side) (position : Position) (w : SwitchRecord) :
    s.Changeover side (s.changeOverAtTake side position w) := by
  have switched : s.Changeover side (s.switchSide side w) :=
    ⟨_, _, s.switchSide_withSide side w, .changedOver .., .changedOver ..⟩
  exact switched.trans (.addRecords ..)

theorem State.abortTeachAtSplice_changeover (s : State) (side : Side) (position : Position) :
    s.Changeover side (s.abortTeachAtSplice side position) := by
  unfold State.abortTeachAtSplice
  split
  · exact .refl ..
  · refine .of_engine s ?_
    exact (Engine.Changeover.teachEnded side _).trans (.addRecords side _ _)

theorem State.serveArrival_changeover (s : State) (side : Side) (position : Position) (x : ArrivalEntry)
    (rest : List ArrivalEntry) : s.Changeover side (s.serveArrival side position x rest) := by
  have removed : s.Changeover side (s.modLanes fun l => { l with arrivals := l.arrivals.set side rest }) :=
    .of_lanes s ⟨rfl, rfl, fun _ _ => rfl, fun _ ne => PerSide.get_set_ne _ _ ne⟩
  simp only [State.serveArrival]
  refine .trans ?_ (State.abortTeachAtSplice_changeover _ side position)
  have reported (made : List Made) := removed.trans (.addRecords side _ made)
  split
  · exact (reported _).trans (State.changeOverAtTake_changeover ..)
  · exact reported _

theorem State.serveArrivals_changeover (side : Side) (position : Position) (l : List ArrivalEntry) (s : State) :
    s.Changeover side (State.serveArrivals side position l s) := by
  induction l generalizing s with
  | nil => exact .refl ..
  | cons x rest ih =>
    rw [State.serveArrivals]
    split
    · exact (s.serveArrival_changeover side position x rest).trans (ih _)
    · exact .refl ..

theorem State.completeSwitch_changeover (side : Side) (s : State) : s.Changeover side s.completeSwitch := by
  unfold State.completeSwitch
  split
  · split
    · exact .of_lanes s ⟨rfl, rfl, fun _ _ => rfl, fun _ _ => rfl⟩
    · exact .refl ..
  · exact .refl ..

/-- R63 to R67: the whole stage. -/
theorem State.stageChangeover_changeover (s : State) (side : Side) (position : Position) :
    s.Changeover side (s.stageChangeover side position) := by
  have served := State.serveArrivals_changeover side position (s.lanes.arrivals.get side) s
  simp only [State.stageChangeover]
  refine .trans ?_ (State.completeSwitch_changeover side _)
  split
  · split
    · exact served.trans (State.changeOverAtTake_changeover ..)
    · exact served
  · exact served

/-! ### The take (R71, R72) -/

/-- R71: a take that finds a line and its engine free. -/
theorem exec_lineTake_taken {s : State} {side : Side} {line : LineEntry} {rest : List LineEntry}
    (free : (s.eng.get side).inFlight = none) (unheld : (s.eng.get side).held = [])
    (queue : (s.asm.get side).queue = line :: rest) :
    exec (.lineTake side) s = .next ((s.beginLine side line rest).runOperation side line) := by
  change execLineTake side s = _
  simp only [execLineTake, free, unheld, queue]

/-- R72: the stages of the line operation behind the changeover stage work on the side's engine alone. -/
theorem State.runOperation_eq (s : State) (side : Side) (line : LineEntry) :
    s.runOperation side line
      = let settled := s.stageChangeover side line.position
        settled.withSide side
          (({ (settled.eng.get side) with snapshot := some settled.lanes.recipes } : Engine).runLine side
            (settled.activeBank side) settled.lanes.recipes line)
          settled.lanes := by
  simp only [State.runOperation, State.modEng_eq, State.withSide_engine, State.withSide_lanes, State.withSide_withSide]
  rfl

end Sys2Proof.Machine
end

section
/-! SUPPORT. What leaves the engines as they are, and what keeps their values in range: every command, and every step. -/

namespace Sys2Proof.Machine

section
variable (s : State)

/-! ### What leaves the engines as they are -/

@[simp] theorem State.offerAll_eng (w : Writer) (made : List Made) : (s.offerAll w made).eng = s.eng := by
  rw [State.offerAll_eq]

@[simp] theorem State.inStep_eng (step : EventStep) (f : State → State) : (s.inStep step f).eng = (f s).eng := rfl
@[simp] theorem State.refuse_eng (p : Port) (code : ResponseCode) : (s.refuse p code).eng = s.eng := rfl
@[simp] theorem State.answerOk_eng (p : Port) : (s.answerOk p).eng = s.eng := rfl
@[simp] theorem State.markTroubleRecord_eng (side : Option Side) (lane : Option LaneId) (position : Position)
    (content : Content) : (s.markTroubleRecord side lane position content).eng = s.eng := rfl
@[simp] theorem State.changeRunState_eng (new : RunState) (port : Option Port) :
    (s.changeRunState new port).eng = s.eng := rfl

/-- What every item of a list leaves as it is, the list leaves as it is. -/
theorem State.foldl_eng {α : Type} (f : State → α → State) (kept : ∀ s x, (f s x).eng = s.eng) (l : List α) :
    (l.foldl f s).eng = s.eng := by
  induction l generalizing s with
  | nil => rfl
  | cons x rest ih => rw [List.foldl_cons, ih, kept]

theorem State.atEachPort_eng (f : State → Port → State) (kept : ∀ s p, (f s p).eng = s.eng) :
    (s.atEachPort f).eng = s.eng := by
  simp only [State.atEachPort, kept]

@[simp] theorem State.setHeadState_eng (h : HeadId) (new : HeadState) (cause : HeadCause) :
    (s.setHeadState h new cause).eng = s.eng := by
  simp only [State.setHeadState]
  split <;> rfl

@[simp] theorem State.setMisses_eng (h : HeadId) (n : Nat) : (s.setMisses h n).eng = s.eng := rfl

@[simp] theorem State.setHead_eng (p : Port) (h : HeadId) (b : SetHeadBody) : (s.setHead p h b).eng = s.eng := by
  unfold State.setHead
  split
  · rfl
  · split
    · rfl
    · split_ifs <;> simp [State.applyEnable_eq]

@[simp] theorem State.startHead_eng (h : HeadId) : (s.startHead h).eng = s.eng := by
  unfold State.startHead
  split <;> simp

@[simp] theorem State.closeSkipped_eng : s.closeSkipped.eng = s.eng := by
  unfold State.closeSkipped
  split <;> rfl

@[simp] theorem State.closeDropRun_eng (side : Side) : (s.closeDropRun side).eng = s.eng := by
  unfold State.closeDropRun
  split <;> rfl

@[simp] theorem State.closeBlindRun_eng (side : Side) (h : HeadId) : (s.closeBlindRun side h).eng = s.eng := by
  unfold State.closeBlindRun
  split <;> rfl

@[simp] theorem State.closeCoverage_eng (side : Side) : (s.closeCoverage side).eng = s.eng :=
  (State.foldl_eng _ _ (fun s h => s.closeBlindRun_eng side h) _).trans (s.closeDropRun_eng side)

@[simp] theorem State.evictFrom_eng (x : Record) (p : Port) : (s.evictFrom x p).eng = s.eng := by
  simp only [State.evictFrom]
  split_ifs <;> rfl

@[simp] theorem State.evictIfFull_eng : s.evictIfFull.eng = s.eng := by
  unfold State.evictIfFull
  split
  · rfl
  · split
    · rfl
    · exact State.atEachPort_eng _ _ fun s p => s.evictFrom_eng _ p

@[simp] theorem State.countAppended_eng (x : Record) (p : Port) : (s.countAppended x p).eng = s.eng := by
  unfold State.countAppended
  split <;> rfl

@[simp] theorem State.place_eng (c : Candidate) : (s.place c).1.eng = s.eng := by
  simp only [State.place]
  split_ifs <;> rfl

@[simp] theorem State.considerRecord_eng (r : Record) (flag : Option Bool) : (s.considerRecord r flag).eng = s.eng := by
  unfold State.considerRecord
  split
  · exact s.place_eng _
  · rfl

@[simp] theorem State.append_eng (o : Offer) : (s.append o).eng = s.eng := by
  simp only [State.append, State.considerRecord_eng, State.atEachPort_eng _ _ fun s p => s.countAppended_eng _ p,
    State.modStore_eng, State.evictIfFull_eng]

@[simp] theorem State.setFilter_eng (p : Port) (b : SetFilterBody) : (s.setFilter p b).eng = s.eng := by
  simp only [State.setFilter]
  split <;> rfl

@[simp] theorem State.fetch_eng (p : Port) (n : Nat) : (s.fetch p n).eng = s.eng := by
  unfold State.fetch
  split
  · rfl
  · split <;> rfl

@[simp] theorem State.fireAt_eng (web : Position) : (s.fireAt web).eng = s.eng := by
  obtain ⟨markers, made, fired, -⟩ := s.fireAt_frame web
  rw [fired]
  rfl

@[simp] theorem State.loseOrders_eng : s.loseOrders.eng = s.eng :=
  State.foldl_eng _ _ (fun s _ => s.markTroubleRecord_eng ..) _

@[simp] theorem State.handOnSplice_eng (capture arrival : Position) : (s.handOnSplice capture arrival).eng = s.eng := by
  rw [State.handOnSplice_eq]
  simp only [State.offerArrival_eq]
  rfl

@[simp] theorem State.setLane_eng (p : Port) (bank : Bank) (side : Side) (lane : LaneId) (b : SetLaneBody) :
    (s.setLane p bank side lane b).eng = s.eng := by
  unfold State.setLane
  split
  · rfl
  · split
    · rfl
    · simp only
      split_ifs <;> rfl

@[simp] theorem State.completeSwitch_eng : s.completeSwitch.eng = s.eng := by
  unfold State.completeSwitch
  split
  · split <;> rfl
  · rfl

/-! ### Slots and counts -/

theorem State.updateSlot_eng (side : Side) (line : LineNo) (f : Slot → Slot) :
    ((s.modAsm side fun a => { a with slots := updateSlot line f a.slots }).closeReady side).eng = s.eng :=
  (State.closeReady_frame _ side).eng

@[simp] theorem State.waitExpiry_eng (side : Side) (line : LineNo) : (s.waitExpiry side line).eng = s.eng := by
  unfold State.waitExpiry
  split
  · rfl
  · split
    · rfl
    · exact State.updateSlot_eng (s.reachTime _) side line _

@[simp] theorem State.accept_eng (h : HeadId) (line : LineNo) (c : Contribution) : (s.accept h line c).eng = s.eng := by
  rw [State.accept_eq]
  refine (State.updateSlot_eng _ _ line _).trans ?_
  split <;> simp [State.count]

@[simp] theorem State.takeHeader_eng (h : HeadId) (hd : PacketHeader) (f : Nat → Contribution) :
    (s.takeHeader h hd f).eng = s.eng := by
  unfold State.takeHeader
  split
  · rfl
  · split
    · exact s.accept_eng ..
    all_goals rfl

@[simp] theorem State.takePacket_eng (h : HeadId) (bytes : List Byte) (f : Nat → List Byte → Contribution) :
    (s.takePacket h bytes f).eng = s.eng := by
  unfold State.takePacket
  split
  · split
    · split
      · exact s.takeHeader_eng ..
      · exact State.takeHeader_eng (s.count h _) ..
      · rfl
    · rfl
  · rfl

@[simp] theorem State.forwardCount_eng : s.forwardCount.eng = s.eng := by
  obtain ⟨u, made, v, -, frame, counted⟩ := s.forwardCount_frame
  rw [counted, State.fireAt_eng]
  exact frame.eng

@[simp] theorem State.backwardCount_eng : s.backwardCount.eng = s.eng := by
  simp only [State.backwardCount]
  split
  · exact State.loseOrders_eng _
  · rfl

/-! ### What keeps the values in range -/

/-- The engine of every side keeps its values in range. -/
def State.KeepsRanges (s t : State) : Prop := ∀ side, (s.eng.get side).KeepsRanges (t.eng.get side)

theorem State.KeepsRanges.of_eng {s t : State} (same : t.eng = s.eng) : s.KeepsRanges t := fun side => by
  rw [same]
  exact .refl _

theorem State.KeepsRanges.refl : s.KeepsRanges s := .of_eng rfl

theorem State.KeepsRanges.trans {s t u : State} (h : s.KeepsRanges t) (k : t.KeepsRanges u) : s.KeepsRanges u :=
  fun side => (h side).trans (k side)

/-- A change of one engine that keeps its values in range. -/
theorem State.KeepsRanges.of_engine {s t : State} {side : Side} {e : Engine} (eng : t.eng = s.eng.set side e)
    (keeps : (s.eng.get side).KeepsRanges e) : s.KeepsRanges t := fun other => by
  rw [eng, PerSide.get_set]
  split
  case isTrue here => exact here ▸ keeps
  case isFalse => exact .refl _

theorem State.KeepsRanges.modEng (side : Side) (f : Engine → Engine) (keeps : ∀ e : Engine, e.KeepsRanges (f e)) :
    s.KeepsRanges (s.modEng side f) := .of_engine rfl (keeps _)

/-- What every item of a list keeps, the list keeps. -/
theorem State.KeepsRanges.foldl {α : Type} (f : State → α → State) (keeps : ∀ s x, State.KeepsRanges s (f s x))
    (l : List α) (s : State) : s.KeepsRanges (l.foldl f s) := by
  induction l generalizing s with
  | nil => exact .refl s
  | cons x rest ih => exact (keeps s x).trans (ih _)

theorem State.KeepsRanges.bothSides (f : State → Side → State) (keeps : ∀ s side, State.KeepsRanges s (f s side))
    (s : State) : s.KeepsRanges (s.bothSides f) := (keeps s .top).trans (keeps _ .bottom)

/-! ### The record store (R74, R128) -/

theorem State.arbitrate_keepsRanges : s.KeepsRanges s.arbitrate := by
  have taken (w : Writer) : s.KeepsRanges (s.takeFront w) := by
    unfold State.takeFront
    split
    · exact .of_eng rfl
    · split
      · exact .modEng s _ _ fun _ => .of_eq rfl rfl rfl
      · exact .refl s
  unfold State.arbitrate
  split
  · exact .refl s
  · split
    · exact .refl s
    case h_2 w _ _ o _ =>
      refine (taken w).trans (.of_eng ?_)
      rw [State.append_eng, State.modStore_eng]

/-! ### Changeovers (R64) -/

theorem Engine.changedOver_keeps (e : Engine) : e.KeepsRanges e.changedOver := .of_tables rfl (.inr rfl)

theorem State.changeOverIf_keepsRanges (side : Side) (now : Bool) : s.KeepsRanges (s.changeOverIf side now) := by
  unfold State.changeOverIf
  split
  · split
    · rw [State.changeOverAtOnce_eq]
      exact .of_engine rfl (Engine.changedOver_keeps _)
    · exact .refl s
  · exact .refl s

theorem State.changeOverBoth_keepsRanges (top bottom : Bool) :
    s.KeepsRanges ((s.changeOverIf .top top).changeOverIf .bottom bottom).completeSwitch := by
  have changed := (s.changeOverIf_keepsRanges .top top).trans (State.changeOverIf_keepsRanges _ .bottom bottom)
  exact changed.trans (.of_eng (State.completeSwitch_eng _))

theorem State.changeOverHeadless_keepsRanges : s.KeepsRanges s.changeOverHeadless :=
  s.changeOverBoth_keepsRanges _ _

theorem State.requestSwitch_keepsRanges (w : SwitchRecord) : s.KeepsRanges (s.requestSwitch w) := by
  simp only [State.requestSwitch]
  split
  · exact State.changeOverBoth_keepsRanges (s.modLanes _) true true
  · exact State.changeOverHeadless_keepsRanges (s.modLanes _)

/-! ### The engines (R71 to R86) -/

theorem readCalEntries_dark {body : List Byte} {entries : List (Nat × Nat)} (read : readCalEntries body = some entries) :
    ∀ x ∈ entries, x.1 ≤ 255 := by
  induction body using readCalEntries.induct generalizing entries with
  | case1 =>
    cases read
    nofun
  | case2 d hi lo rest ih =>
    obtain ⟨later, read_later, rfl⟩ := Option.map_eq_some_iff.mp read
    exact List.forall_mem_cons.mpr ⟨Nat.le_of_lt_succ d.isLt, ih read_later⟩
  | case3 body not_nil not_cons => simp [readCalEntries] at read

theorem readSetCal_dark {body : List Byte} {b : SetCalBody} (read : readSetCal body = some b) :
    ∀ x ∈ b.entries, x.1 ≤ 255 := by
  unfold readSetCal at read
  split at read
  · split at read
    case h_1 entries =>
      split at read
      · cases read
        exact readCalEntries_dark entries
      · cases read
    case h_2 => cases read
  · cases read

theorem State.takeSetCal_keepsRanges (p : Port) (side : Side) {b : SetCalBody} (dark : ∀ x ∈ b.entries, x.1 ≤ 255) :
    s.KeepsRanges (s.takeSetCal p side b) := by
  unfold State.takeSetCal
  split_ifs
  · exact .of_eng rfl
  · exact .of_eng rfl
  · exact .modEng s side _ fun e => e.writeCal_keeps b.entries dark _

theorem State.takeTeach_keepsRanges (p : Port) (side : Side) (b : TeachBody) : s.KeepsRanges (s.takeTeach p side b) := by
  unfold State.takeTeach
  split_ifs
  · exact .of_eng rfl
  · exact .of_eng rfl
  · exact .of_eng rfl
  · exact .of_engine (side := side) rfl (.of_eq rfl rfl rfl)

/-- R85, R86: a teach that ends with a record leaves the values as they are. -/
theorem State.endTeach_keepsRanges (side : Side) (made : List Made) :
    s.KeepsRanges ((s.modEng side fun e => { e with teach := none }).offerAll (.engine side) made) :=
  .of_engine (State.offerAll_eng ..) (.of_eq rfl rfl rfl)

theorem State.takeEngineCommand_keepsRanges (p : Port) (side : Side) (c : EngineCommand) (body : List Byte) :
    s.KeepsRanges (s.takeEngineCommand p side c body) := by
  cases c with
  | setCal =>
    simp only [State.takeEngineCommand]
    split
    case h_1 read => exact s.takeSetCal_keepsRanges p side (readSetCal_dark read)
    case h_2 => exact .of_eng rfl
  | teach =>
    simp only [State.takeEngineCommand]
    split
    · exact s.takeTeach_keepsRanges p side _
    · exact .of_eng rfl
  | teachAbort =>
    simp only [State.takeEngineCommand, State.takeTeachAbort]
    split
    · exact .of_eng rfl
    · exact s.endTeach_keepsRanges side _

theorem State.reachEngine_keepsRanges (p : Port) (side : Side) (c : EngineCommand) (body : List Byte) :
    s.KeepsRanges (s.reachEngine p side c body) := by
  unfold State.reachEngine
  split
  · exact .modEng s side _ fun _ => .of_eq rfl rfl rfl
  · exact s.takeEngineCommand_keepsRanges p side c body

theorem State.takeHeld_keepsRanges (side : Side) (c : HeldCommand) : s.KeepsRanges (s.takeHeld side c) :=
  (State.KeepsRanges.of_eng (s.noteTransfer_eng c.port)).trans
    (State.takeEngineCommand_keepsRanges _ c.port side c.command c.body)

theorem State.releaseLine_keepsRanges (side : Side) : s.KeepsRanges (s.releaseLine side) := by
  have released : s.KeepsRanges
      (s.modEng side fun e => { e with inFlight := none, held := [], laneLevels := Vector.replicate 16 .none }) :=
    .modEng s side _ fun _ => .of_eq rfl rfl rfl
  exact released.trans (.foldl _ (fun s c => s.takeHeld_keepsRanges side c) _ _)

theorem State.setSide_keepsRanges (p : Port) (side : Side) (width : Nat) : s.KeepsRanges (s.setSide p side width) := by
  unfold State.setSide
  split_ifs
  · exact .of_eng rfl
  · exact .of_engine (side := side) rfl (.of_tables rfl (.inr rfl))
  · exact .of_eng rfl

theorem State.Changeover.keepsRanges {side : Side} {s t : State} (h : s.Changeover side t) : s.KeepsRanges t := by
  obtain ⟨e, l, rfl, engine, -⟩ := h
  exact .of_engine rfl engine.keepsRanges

theorem State.runOperation_keepsRanges (side : Side) (line : LineEntry) : s.KeepsRanges (s.runOperation side line) := by
  rw [State.runOperation_eq]
  have settled := (s.stageChangeover_changeover side line.position).keepsRanges
  generalize s.stageChangeover side line.position = u at settled
  let taken : Engine := { (u.eng.get side) with snapshot := some u.lanes.recipes }
  have snapped : (u.eng.get side).KeepsRanges taken := .of_eq rfl rfl rfl
  exact settled.trans (.of_engine rfl (snapped.trans (taken.runLine_keeps side _ _ line)))

theorem State.beginLine_keepsRanges (side : Side) (line : LineEntry) (rest : List LineEntry) :
    s.KeepsRanges (s.beginLine side line rest) := .modEng (s.modAsm side _) side _ fun _ => .of_eq rfl rfl rfl

/-! ### Run control (R164, R167) -/

/-- A change of the value of every bin that keeps the ranges, and leaves no bin in STREAK that was not. -/
theorem Engine.KeepsRanges.of_mapBins {e f : Engine} (g : Bin → Bin) (cal : f.cal = e.cal)
    (bins : f.bins = (e.bins.map fun jb => (jb.1, g jb.2)).filter fun jb => decide (jb.2 ≠ Bin.quiet 0))
    (fits : ∀ b : Bin, b.Fits → (g b).Fits)
    (owned : ∀ b : Bin, (g b).state = .streak → b.state = .streak ∧ f.streaks = e.streaks) : e.KeepsRanges f := by
  have listed : ∀ jb ∈ f.bins, ∃ b, (jb.1, b) ∈ e.bins ∧ jb.2 = g b := by
    intro jb mem
    rw [bins] at mem
    obtain ⟨former, listed, rfl⟩ := List.mem_map.mp (List.mem_of_mem_filter mem)
    exact ⟨former.2, listed, rfl⟩
  refine ⟨by simp only [Engine.calibrationInRange, cal, imp_self], fun inRange => ?_, fun ⟨wf, owners⟩ => ⟨?_, ?_⟩⟩
  · rw [Engine.accumulatorsInRange_iff]
    intro jb mem
    obtain ⟨b, former, same⟩ := listed jb mem
    exact same ▸ fits b (e.accumulatorsInRange_iff.mp inRange _ former)
  · exact bins ▸ sparseWfFrom_mapValues _ g wf
  · intro jb mem streak
    obtain ⟨b, former, same⟩ := listed jb mem
    obtain ⟨was, streaks⟩ := owned b (same ▸ streak)
    rw [streaks]
    exact owners (jb.1, b) former was

theorem Engine.clearAccumulators_keeps (e : Engine) : e.KeepsRanges e.clearAccumulators :=
  .of_mapBins (fun b => { b with s := 0 }) rfl rfl (fun _ fits => ⟨accumulatorFits_zero, fits.2⟩)
    fun _ streak => ⟨streak, rfl⟩

/-- R167 steps 2 and 3: the bins in one state become QUIET; no entry is given back while a streak stands. -/
theorem Engine.KeepsRanges.of_quieted {e f : Engine} (state : BinState) (cal : f.cal = e.cal)
    (bins : f.bins = quietedBins state e.bins) (streaks : state = .streak ∨ f.streaks = e.streaks) :
    e.KeepsRanges f := by
  refine .of_mapBins (fun b => if b.state = state then Bin.quiet b.s else b) cal bins (fun b fits => ?_) fun b streak => ?_
  · split
    · exact Bin.quiet_fits fits.1
    · exact fits
  · split at streak
    case isTrue => nomatch streak
    case isFalse other => exact ⟨streak, streaks.resolve_left fun same => other (same ▸ streak)⟩

theorem State.prepareStart_keepsRanges : s.KeepsRanges s.prepareStart := by
  have heads : s.KeepsRanges (allHeads.foldl State.startHead s) := .of_eng (State.foldl_eng _ _ State.startHead_eng _)
  rw [State.prepareStart]
  have top := heads.trans (.modEng _ .top _ Engine.clearAccumulators_keeps)
  have bottom := top.trans (.modEng _ .bottom _ Engine.clearAccumulators_keeps)
  exact bottom.trans (State.changeOverHeadless_keepsRanges _)

theorem State.inStep_keepsRanges (step : EventStep) {f : State → State} (keeps : s.KeepsRanges (f s)) :
    s.KeepsRanges (s.inStep step f) := keeps.trans (.of_eng rfl)

theorem State.syncTrigger_eng : s.syncTrigger.eng = s.eng := (State.openSlots_frame (s.modPos _) _ _).eng

theorem State.startRun_keepsRanges (p : Port) : s.KeepsRanges (s.startRun p) := by
  refine (s.inStep_keepsRanges .startRecords s.prepareStart_keepsRanges).trans (.of_eng ?_)
  rw [State.startRun, State.answerOk_eng, State.inStep_eng, State.changeRunState_eng, State.syncTrigger_eng]

theorem State.stopRun_eng (p : Port) : (s.stopRun p).eng = s.eng := by
  rw [State.stopRun, State.answerOk_eng, State.inStep_eng, State.changeRunState_eng, State.inStep_eng,
    State.closeSkipped_eng]

theorem State.truncateBlobs_keepsRanges (side : Side) : s.KeepsRanges (s.truncateBlobs side) :=
  .of_engine (State.offerAll_eng ..) (.of_eq rfl rfl rfl)

theorem State.stopStreaks_keepsRanges (side : Side) : s.KeepsRanges (s.stopStreaks side) :=
  .of_engine (State.offerAll_eng ..) (.of_quieted .streak rfl rfl (.inl rfl))

theorem State.dropCandidates_keepsRanges (side : Side) : s.KeepsRanges (s.dropCandidates side) :=
  .modEng s side _ fun _ => .of_quieted .candidate rfl rfl (.inr rfl)

theorem State.stopTeach_keepsRanges (side : Side) : s.KeepsRanges (s.stopTeach side) := by
  unfold State.stopTeach
  split
  · exact .refl s
  · exact s.endTeach_keepsRanges side _

theorem State.clearBins_keepsRanges (side : Side) : s.KeepsRanges (s.clearBins side) :=
  .modEng s side _ fun _ => .of_tables rfl (.inr rfl)

theorem State.endDrain_keepsRanges : s.KeepsRanges s.endDrain := by
  refine .trans ?_ (State.inStep_keepsRanges _ .drainRun (.of_eng rfl))
  simp only [State.closingSteps]
  refine .trans ?_ (.bothSides _ State.clearBins_keepsRanges _)
  refine .trans ?_ (State.inStep_keepsRanges _ .drainTeach (.bothSides _ State.stopTeach_keepsRanges _))
  refine .trans ?_ (State.inStep_keepsRanges _ .drainCoverage
    (.bothSides _ (fun s side => .of_eng (s.closeCoverage_eng side)) _))
  refine .trans ?_ (.bothSides _ State.dropCandidates_keepsRanges _)
  refine .trans ?_ (State.inStep_keepsRanges _ .drainStreaks (.bothSides _ State.stopStreaks_keepsRanges _))
  exact State.inStep_keepsRanges _ .drainBlobs (.bothSides _ State.truncateBlobs_keepsRanges _)

end

end Sys2Proof.Machine
end

section
/-! SUPPORT. Every command and every step keeps the values of the engines in range. -/

namespace Sys2Proof.Machine

/-! ### Port commands -/

theorem takeFrame_keepsRanges (s : State) (p : Port) (len : Nat) (act : State → State)
    (acts : ∀ u : State, u.KeepsRanges (act u)) : s.KeepsRanges (takeFrame p len act s) := by
  simp only [takeFrame]
  split_ifs
  · exact .of_eng rfl
  · exact .of_eng rfl
  · exact .trans (t := (s.shiftFiller p (2 + len)).beginCommand p) (.of_eng rfl) (acts _)

theorem takeCommand_keepsRanges {β : Type} (s : State) (p : Port) (body : List Byte) (read : List Byte → Option β)
    (act : β → State → State) (acts : ∀ b (u : State), u.KeepsRanges (act b u)) :
    s.KeepsRanges (takeCommand p body read act s) := by
  refine takeFrame_keepsRanges s p _ _ fun u => ?_
  split
  · exact .of_eng rfl
  · exact acts _ u

/-- A command that leaves the engines as they are. -/
theorem takeCommand_keepsRanges_of_eng {β : Type} (s : State) (p : Port) (body : List Byte)
    (read : List Byte → Option β) (act : β → State → State) (acts : ∀ b (u : State), (act b u).eng = u.eng) :
    s.KeepsRanges (takeCommand p body read act s) :=
  takeCommand_keepsRanges s p body read act fun b u => .of_eng (acts b u)

/-! ### Resets (R87, R106, R126) -/

theorem Engine.atReset_keeps (e : Engine) (binWidth : Nat) : e.KeepsRanges (Engine.atReset [] binWidth) :=
  ⟨fun _ => ⟨rfl, nofun⟩, fun _ => nofun, fun _ => ⟨rfl, nofun⟩⟩

theorem State.enterInit_keepsRanges (s : State) (a b : Bool) : s.KeepsRanges (s.enterInit a b)
  | .top => Engine.atReset_keeps ..
  | .bottom => Engine.atReset_keeps ..

theorem State.resetPinned_keepsRanges (s : State) (a b : Bool) : s.KeepsRanges (s.resetPinned a b)
  | .top => .of_tables rfl (.inr rfl)
  | .bottom => .of_tables rfl (.inr rfl)

/-! ### Every command -/

/-- What every command keeps. -/
theorem exec_keepsRanges (c : Instr) (s : State) : ∃ t, exec c s = .next t ∧ s.KeepsRanges t := by
  cases c with
  | powerOn a b => exact ⟨_, rfl, s.enterInit_keepsRanges a b⟩
  | initEnd =>
    refine ⟨_, rfl, .of_eng ?_⟩
    split <;> rfl
  | resetPin a b =>
    refine ⟨_, rfl, ?_⟩
    split
    · exact s.enterInit_keepsRanges a b
    · exact s.resetPinned_keepsRanges a b
  | encoderEdge a b =>
    refine ⟨_, rfl, .of_eng ?_⟩
    split
    · rfl
    · exact (s.holding a b).forwardCount_eng
    · exact (s.holding a b).backwardCount_eng
    · unfold State.illegalTransition
      split <;> rfl
  | spliceEdge =>
    refine ⟨_, rfl, .of_eng ?_⟩
    generalize captured : State.offer _ _ _ = u
    have same : u.eng = s.eng := by rw [← captured, State.offer_eng, State.modPos_eng]
    split
    · exact (u.handOnSplice_eng _ _).trans same
    · exact same
  | linkUp h =>
    refine ⟨_, rfl, .of_eng ?_⟩
    split
    · rfl
    · simp only
      split <;> simp
  | linkDown h =>
    refine ⟨_, rfl, .of_eng ?_⟩
    split
    · simp only
      split <;> simp
    · rfl
  | completePacket h bytes => exact ⟨_, rfl, .of_eng (s.takePacket_eng ..)⟩
  | abortedPacket h bytes => exact ⟨_, rfl, .of_eng (s.takePacket_eng ..)⟩
  | waitExpiry side line => exact ⟨_, rfl, .of_eng (s.waitExpiry_eng side line)⟩
  | lineTake side =>
    refine ⟨_, rfl, ?_⟩
    split
    · exact (s.beginLine_keepsRanges side _ _).trans (State.runOperation_keepsRanges _ side _)
    · exact .refl s
  | lineOperationEnd side =>
    refine ⟨_, rfl, ?_⟩
    split
    · exact s.releaseLine_keepsRanges side
    · exact .refl s
  | recordAppend => exact ⟨_, rfl, s.arbitrate_keepsRanges⟩
  | pulseEnd k =>
    refine ⟨_, rfl, .of_eng ?_⟩
    split <;> rfl
  | mcfEdge k => exact ⟨_, rfl, .of_eng rfl⟩
  | confirmWindowExpiry k =>
    refine ⟨_, rfl, .of_eng ?_⟩
    split <;> rfl
  | staleTimerExpiry p =>
    refine ⟨_, rfl, .of_eng ?_⟩
    split <;> rfl
  | drainEnd =>
    refine ⟨_, rfl, ?_⟩
    split
    · exact s.endDrain_keepsRanges
    · exact .refl s
  | setHead p body =>
    refine ⟨_, rfl, takeCommand_keepsRanges_of_eng s p body _ _ fun b u => ?_⟩
    split
    · rfl
    · exact u.setHead_eng ..
  | getHead p body =>
    refine ⟨_, rfl, takeCommand_keepsRanges_of_eng s p body _ _ fun b u => ?_⟩
    split <;> rfl
  | setLine p body =>
    refine ⟨_, rfl, takeCommand_keepsRanges_of_eng s p body _ _ fun b u => ?_⟩
    split_ifs <;> rfl
  | setCal p body =>
    refine ⟨_, rfl, takeCommand_keepsRanges s p body _ _ fun b u => ?_⟩
    split
    · exact .of_eng rfl
    · exact u.reachEngine_keepsRanges p _ _ _
  | teach p body =>
    refine ⟨_, rfl, takeCommand_keepsRanges s p body _ _ fun b u => ?_⟩
    split
    · exact .of_eng rfl
    · exact u.reachEngine_keepsRanges p _ _ _
  | teachAbort p body =>
    refine ⟨_, rfl, takeCommand_keepsRanges s p body _ _ fun b u => ?_⟩
    split
    · exact .of_eng rfl
    · exact u.reachEngine_keepsRanges p _ _ _
  | setSide p body =>
    refine ⟨_, rfl, takeCommand_keepsRanges s p body _ _ fun b u => ?_⟩
    split
    · exact .of_eng rfl
    · exact u.setSide_keepsRanges p _ _
  | setRecipe p body =>
    refine ⟨_, rfl, takeCommand_keepsRanges_of_eng s p body _ _ fun b u => ?_⟩
    split
    · rfl
    · split <;> rfl
  | setLane p body =>
    refine ⟨_, rfl, takeCommand_keepsRanges_of_eng s p body _ _ fun b u => ?_⟩
    split
    · exact u.setLane_eng ..
    · rfl
  | switchBank p body =>
    refine ⟨_, rfl, takeCommand_keepsRanges s p body _ _ fun b u => ?_⟩
    split
    · exact .of_eng rfl
    · split_ifs
      · exact .of_eng rfl
      · exact .of_eng rfl
      · exact (u.requestSwitch_keepsRanges _).trans (.of_eng rfl)
  | cancelSwitch p body =>
    refine ⟨_, rfl, takeCommand_keepsRanges_of_eng s p body _ _ fun b u => ?_⟩
    split <;> rfl
  | setMarker p body =>
    refine ⟨_, rfl, takeCommand_keepsRanges_of_eng s p body _ _ fun b u => ?_⟩
    split
    · split <;> rfl
    · rfl
  | mark p body =>
    refine ⟨_, rfl, takeCommand_keepsRanges_of_eng s p body _ _ fun b u => ?_⟩
    split
    · rfl
    · split_ifs
      · rfl
      · exact u.place_eng _
  | getMarker p body =>
    refine ⟨_, rfl, takeCommand_keepsRanges_of_eng s p body _ _ fun b u => ?_⟩
    split <;> rfl
  | readRecords p body => exact ⟨_, rfl, takeCommand_keepsRanges_of_eng s p body _ _ fun b u => rfl⟩
  | setFilter p body =>
    refine ⟨_, rfl, takeCommand_keepsRanges_of_eng s p body _ _ fun b u => ?_⟩
    split
    · rfl
    · exact u.setFilter_eng p b
  | start p body =>
    refine ⟨_, rfl, takeCommand_keepsRanges s p body _ _ fun b u => ?_⟩
    split_ifs
    · exact .of_eng rfl
    · exact .of_eng rfl
    · exact .of_eng rfl
    · exact u.startRun_keepsRanges p
  | stop p body =>
    refine ⟨_, rfl, takeCommand_keepsRanges_of_eng s p body _ _ fun b u => ?_⟩
    split
    · rfl
    · exact u.stopRun_eng p
  | setNotices p body => exact ⟨_, rfl, takeCommand_keepsRanges_of_eng s p body _ _ fun b u => rfl⟩
  | getNotice p body => exact ⟨_, rfl, takeCommand_keepsRanges_of_eng s p body _ _ fun b u => rfl⟩
  | getStatus p body => exact ⟨_, rfl, takeCommand_keepsRanges_of_eng s p body _ _ fun b u => rfl⟩
  | portReset p body => exact ⟨_, rfl, takeCommand_keepsRanges_of_eng s p body _ _ fun b u => rfl⟩
  | fetch p n => exact ⟨_, rfl, .of_eng (s.fetch_eng p n)⟩
  | unknownCommand p code body =>
    refine ⟨_, rfl, ?_⟩
    split
    · exact takeFrame_keepsRanges s p _ _ fun u => .of_eng rfl
    · exact .refl s
  | badFrame p code rest =>
    refine ⟨_, rfl, .of_eng ?_⟩
    split
    · simp only
      split <;> rfl
    · rfl

/-- What every step keeps. -/
theorem step_keepsRanges {s t : State} (run : step s = .next t) : s.KeepsRanges t := by
  cases pending : s.pending with
  | nil =>
    simp only [step, pending] at run
    cases run
    exact .of_eng rfl
  | cons c rest =>
    simp only [step, pending] at run
    obtain ⟨u, completes, keeps⟩ := exec_keepsRanges c { s with pending := rest }
    rw [completes] at run
    cases run
    exact keeps

end Sys2Proof.Machine

open Sys2Proof Sys2Proof.Machine

/-- Settles O58: every step keeps the three ranges of each side's engine. -/
theorem stepKeepsEngineValuesInRange : Obligations.StepKeepsEngineValuesInRange :=
  ⟨fun _ _ inRange run side => (step_keepsRanges run side).calibration (inRange side),
    fun _ _ inRange run side => (step_keepsRanges run side).accumulators (inRange side),
    fun _ _ owned run side => (step_keepsRanges run side).owned (owned side)⟩
end

section
/-! SUPPORT. Events whose condition does not hold (log 2): the tests of the arbiter, of the drain, of the wait expiry and of
an encoder edge that find nothing to do. -/

namespace Sys2Proof.Machine

/-- R128: with no record waiting the arbiter serves no writer. -/
theorem State.arbitrate_idle {s : State} (waiting : s.store.waiting = [])
    (lists : ∀ side, (s.eng.get side).recordList = []) : s.arbitrate = s := by
  have none_lists (w : Writer) : s.lineRecords w = [] := by
    unfold State.lineRecords
    split
    · exact lists _
    · rfl
  have no_front (w : Writer) : s.front w = none := by
    simp only [State.front, waiting, List.find?_nil, none_lists, List.head?_nil]
  have no_writer : s.nextWriter = none := List.find?_eq_none.mpr fun w _ => by simp [no_front]
  rw [State.arbitrate, no_writer]

/-- R166: the drain is not due while a side has a slot, a queued line or a line in flight. -/
theorem State.not_allIdle {s : State} {side : Side}
    (busy : (s.asm.get side).slots ≠ [] ∨ (s.asm.get side).queue ≠ [] ∨ (s.eng.get side).inFlight.isSome = true) :
    s.allIdle ≠ true := by
  intro idle
  obtain ⟨slots, queue, inFlight⟩ := s.allIdle_iff.mp idle side
  rcases busy with open_slot | queued | flies
  · exact open_slot slots
  · exact queued queue
  · have none_flies : (s.eng.get side).inFlight = none := inFlight
    simp [none_flies] at flies

/-- R41: an expiry of a line number that no open slot has. -/
theorem State.waitExpiry_none {s : State} {side : Side} {line : LineNo}
    (none_open : ∀ slot ∈ (s.asm.get side).slots, slot.line ≠ line) : s.waitExpiry side line = s := by
  have none_found : s.slotOf side line = none := List.find?_eq_none.mpr fun slot mem => by simpa using none_open slot mem
  rw [State.waitExpiry, none_found]

theorem edgeKind_same (held : Bool × Bool) : edgeKind held held = .unchanged := if_pos rfl

theorem codeUnknown_eq_false {code : Byte} (known : code ∈ namedCodes ∨ code = 0x00) : codeUnknown code = false := by
  rcases known with named | rfl
  · simp [codeUnknown, named]
  · rfl

/-- R71: a take that finds no line, or its engine busy. -/
theorem execLineTake_idle {s : State} {side : Side}
    (idle : (s.asm.get side).queue = [] ∨ (s.eng.get side).inFlight.isSome = true ∨ (s.eng.get side).held ≠ []) :
    execLineTake side s = .next s := by
  unfold execLineTake
  split
  case h_1 line rest inFlight held queue => simp [inFlight, held, queue] at idle
  case h_2 => rfl

end Sys2Proof.Machine

open Sys2Proof Sys2Proof.Machine

/-- Settles O7, event by event: the test of each event fails. -/
theorem eventsThatDoNotOccurChangeNothing : Obligations.EventsThatDoNotOccurChangeNothing := by
  intro s
  refine ⟨fun runs => ?_, fun side idle => execLineTake_idle idle, fun side unended => ?_, fun waiting lists => ?_,
    fun k idle => ?_, fun k idle => ?_, fun p idle => ?_, fun side line none_open => ?_, fun early => ?_, ?_,
    fun p code body known => ?_, fun p code rest whole => ?_⟩
  · exact congrArg Host.Outcome.next (if_neg runs)
  · refine congrArg Host.Outcome.next (if_neg ?_)
    rintro ⟨flies, ended⟩
    rcases unended with idle | left
    · simp [idle] at flies
    · exact left ended
  · exact congrArg Host.Outcome.next (State.arbitrate_idle waiting lists)
  · change execPulseEnd k s = _
    rw [execPulseEnd, idle]
  · change execConfirmWindowExpiry k s = _
    rw [execConfirmWindowExpiry, idle]
  · change execStaleTimerExpiry p s = _
    rw [execStaleTimerExpiry, idle]
  · exact congrArg Host.Outcome.next (State.waitExpiry_none none_open)
  · refine congrArg Host.Outcome.next (if_neg ?_)
    rintro ⟨stopping, idle⟩
    rcases early with runs | ⟨side, busy⟩
    · exact runs stopping
    · exact State.not_allIdle busy idle
  · change execEncoderEdge s.pos.encA s.pos.encB s = _
    simp only [execEncoderEdge, edgeKind_same]
  · exact congrArg Host.Outcome.next (if_neg (by simp [codeUnknown_eq_false known]))
  · exact congrArg Host.Outcome.next (if_neg (by simp [whole]))
end

section
/-! SUPPORT. The dropped lines of a preceding drop (R73): each is blind in every column. -/

namespace Sys2Proof.Machine

/-- R79, R80: the level of a lane in a line without a value. -/
theorem laneLevel_nil (r : LaneRecord) : laneLevel r [] = if r.enabled then .blind else .none := rfl

/-- R97: without a run a blob whose lane is blind is frozen. -/
theorem walkBlob_blind (side : Side) (bank : LaneBank) (recipes : Recipes) {levels : Vector LaneLevel 16}
    (cols : List (Nat × Nat)) (droppedRuns : List Run) (position : Position) {x : Blob} (spans : List (Nat × Nat))
    (blind : levels[x.lane] = .blind) :
    walkBlob side bank recipes levels cols droppedRuns position { blob := x, spans := spans, runs := [] }
      = ([x], []) := by
  have stays : frozen bank levels cols droppedRuns x = true := by simp [frozen, blind]
  simp only [walkBlob, stays, if_true]

/-- R88 to R97: a line without a value opens, extends and closes no blob of a blind lane. -/
theorem Engine.stagePinholes_nil {e : Engine} (side : Side) (position : Position) (bank : LaneBank) (recipes : Recipes)
    (blind : ∀ x ∈ e.blobs, e.laneLevels[x.lane] = .blind) :
    e.stagePinholes side position bank recipes [] = { e with runList := [], runsDropped := 0, blobDrops := 0 } := by
  have walked : (startUpdate e.blobs).map (walkBlob side bank recipes e.laneLevels [] [] position)
      = e.blobs.map fun x => ([x], []) := by
    rw [startUpdate, List.map_map]
    exact List.map_congr_left fun x mem => walkBlob_blind side bank recipes [] [] position _ (blind x mem)
  have blobs : ((startUpdate e.blobs).map (walkBlob side bank recipes e.laneLevels [] [] position)).flatMap (·.1)
      = e.blobs := by rw [walked, List.flatMap_map, List.flatMap_singleton']
  have records : ((startUpdate e.blobs).map (walkBlob side bank recipes e.laneLevels [] [] position)).flatMap (·.2)
      = [] := by rw [walked, List.flatMap_map]; simp
  change ({ e with
      runList := [], runsDropped := 0, blobDrops := 0
      blobs := ((startUpdate e.blobs).map (walkBlob side bank recipes e.laneLevels [] [] position)).flatMap (·.1)
      recordList := e.recordList ++ [] } : Engine).addRecords side
    (((startUpdate e.blobs).map (walkBlob side bank recipes e.laneLevels [] [] position)).flatMap (·.2)) = _
  rw [blobs, records, Engine.addRecords_nil, List.append_nil]

/-- R109: a bin that lies within the coated zone of an enabled lane is evaluated. -/
theorem binLane_isSome {bank : LaneBank} {w j : Nat}
    (inside : ∃ i : LaneId, bank[i].enabled = true ∧ bank[i].coatedFirst ≤ j * w ∧ j * w + w ≤ bank[i].coatedLast + 1) :
    (binLane bank w j).isSome = true := by
  obtain ⟨i, enabled, first, last⟩ := inside
  exact List.find?_isSome.mpr ⟨i, (mem_enabledLanes bank i).mpr enabled,
    Bool.and_eq_true_iff.mpr ⟨decide_eq_true first, decide_eq_true last⟩⟩

/-- R110: in a line without a lane mean every bin is frozen. -/
theorem stepBin_frozen (side : Side) (position : Position) (bank : LaneBank) (recipes : Recipes)
    (cols : List (Nat × Nat)) {e : Engine} {jl : Nat × LaneId} (blind : ∀ m, e.laneLevels[jl.2] ≠ .mean m) :
    stepBin side position bank recipes cols e jl = e := by
  cases level : e.laneLevels[jl.2] with
  | mean m => exact absurd level (blind m)
  | blind => simp only [stepBin, level]
  | none => simp only [stepBin, level]

theorem Engine.stageStreaks_frozen {e : Engine} (side : Side) (position : Position) (bank : LaneBank)
    (recipes : Recipes) (cols : List (Nat × Nat)) (blind : ∀ (i : LaneId) (m : Nat), e.laneLevels[i] ≠ .mean m)
    (evaluated : ∀ jb ∈ e.bins, (binLane bank e.binWidth jb.1).isSome = true) :
    e.stageStreaks side position bank recipes cols = e := by
  have quieted : e.quietUnevaluated bank = e :=
    congrArg (fun bins => { e with bins := bins }) (List.filter_eq_self.mpr evaluated)
  rw [Engine.stageStreaks, quieted]
  exact List.foldlRecOn (evaluatedBins bank e.binWidth) _ (motive := fun f => f = e) rfl fun f same jl _ => by
    rw [same, stepBin_frozen side position bank recipes cols (blind jl.2)]

/-- R73: the engine after a dropped line: its levels, and nothing found. -/
def Engine.lineDropped (e : Engine) (levels : Vector LaneLevel 16) : Engine :=
  { e with laneLevels := levels, runList := [], runsDropped := 0, blobDrops := 0 }

/-- R79, R80: the levels of the lanes of a bank in a line without a value. -/
def blindLevels (bank : LaneBank) : Vector LaneLevel 16 :=
  Vector.ofFn fun i => if bank[i].enabled then .blind else .none

theorem blindLevels_get (bank : LaneBank) (i : LaneId) :
    (blindLevels bank)[i] = if bank[i].enabled then .blind else .none := by
  simp [blindLevels]

theorem Engine.stageLevels_nil (e : Engine) (bank : LaneBank) :
    e.stageLevels bank [] = { e with laneLevels := blindLevels bank } := by
  have same : (e.stageLevels bank []).laneLevels = blindLevels bank := by
    ext i bound
    have read := e.stageLevels_get bank [] ⟨i, bound⟩
    rw [laneLevel_nil, ← blindLevels_get] at read
    exact read
  calc e.stageLevels bank [] = { e with laneLevels := (e.stageLevels bank []).laneLevels } := by
        simp only [Engine.stageLevels]
    _ = _ := by rw [same]

/-- R73: one dropped line. -/
theorem Engine.inspect_nil {e : Engine} (side : Side) (position : Position) {bank : LaneBank} (recipes : Recipes)
    (blobs : ∀ x ∈ e.blobs, bank[x.lane].enabled = true)
    (evaluated : ∀ jb ∈ e.bins, (binLane bank e.binWidth jb.1).isSome = true) :
    e.inspect side position bank recipes [] = e.lineDropped (blindLevels bank) := by
  have no_mean (i : LaneId) (m : Nat) : (blindLevels bank)[i] ≠ .mean m := by
    rw [blindLevels_get]
    split <;> nofun
  have pinholes : ({ e with laneLevels := blindLevels bank } : Engine).stagePinholes side position bank recipes []
      = e.lineDropped (blindLevels bank) := by
    refine Engine.stagePinholes_nil side position bank recipes fun x mem => ?_
    exact (blindLevels_get bank x.lane).trans (if_pos (blobs x mem))
  have corrected : e.correct [] = [] := rfl
  rw [Engine.inspect, corrected, Engine.stageLevels_nil, pinholes]
  exact Engine.stageStreaks_frozen side position bank recipes [] no_mean evaluated

/-- R73: however many dropped lines. -/
theorem Engine.dropPasses_succ {e : Engine} (side : Side) (position : Position) {bank : LaneBank} (recipes : Recipes)
    (blobs : ∀ x ∈ e.blobs, bank[x.lane].enabled = true)
    (evaluated : ∀ jb ∈ e.bins, (binLane bank e.binWidth jb.1).isSome = true) (n : Nat) :
    e.dropPasses side position bank recipes (n + 1) = e.lineDropped (blindLevels bank) := by
  induction n generalizing e with
  | zero => exact Engine.inspect_nil side position recipes blobs evaluated
  | succ n ih =>
    rw [Engine.dropPasses, Engine.inspect_nil side position recipes blobs evaluated]
    exact ih (e := e.lineDropped (blindLevels bank)) blobs evaluated

end Sys2Proof.Machine

open Sys2Proof Sys2Proof.Machine

/-- Settles O29: one dropped line leaves blind levels and nothing found, and the next ones leave that. -/
theorem droppedLinesChangeNothing : Obligations.DroppedLinesChangeNothing := by
  intro e side position bank recipes n blobs bins
  exact ⟨blindLevels bank, Engine.dropPasses_succ side position recipes blobs (fun jb mem => binLane_isSome (bins jb mem)) n,
    blindLevels_get bank⟩
end

section
/-! SUPPORT. The line operation of a take, field by field (R71 to R73, R76, R79, R80): what a line leaves of its engine, and
the lane levels under the bank in force. -/

namespace Sys2Proof.Machine

/-! ### Stages 3 to 6 -/

/-- A field that a view of an engine shows is the same in engines with the same view. -/
theorem Engine.field_eq {α : Type} (view : Engine → Engine) (field : Engine → α) (shown : ∀ e, field (view e) = field e)
    {e f : Engine} (same : view f = view e) : field f = field e := by
  rw [← shown f, same, shown e]

/-- The engine without what stages 4 to 6 change. -/
def Engine.besidesInspection (e : Engine) : Engine := { e.untouched with recordList := [] }

theorem Engine.Inspected.rest {side : Side} {e f : Engine} (h : Engine.Inspected side e f) :
    f.besidesInspection = e.besidesInspection := by
  obtain ⟨made, same⟩ := h
  rw [Engine.besidesInspection, same]
  rfl

theorem Engine.Inspected.cal {side : Side} {e f : Engine} (h : Engine.Inspected side e f) : f.cal = e.cal :=
  Engine.field_eq Engine.besidesInspection Engine.cal (fun _ => rfl) h.rest

theorem Engine.Inspected.ownRecords {side : Side} {e f : Engine} (h : Engine.Inspected side e f)
    (own : e.OwnRecords side) : f.OwnRecords side := by
  obtain ⟨made, same⟩ := h
  rw [Engine.OwnRecords, Engine.field_eq Engine.untouched Engine.recordList (fun _ => rfl) same]
  exact own.addRecords made

/-- R76: the corrected line is of the calibration table alone. -/
theorem Engine.correct_congr {e f : Engine} (cal : f.cal = e.cal) (cols : List (Nat × Byte)) :
    f.correct cols = e.correct cols := by
  simp only [Engine.correct, Engine.calEntry, cal]

/-- Stage 6 behind stages 4 and 5 of the same line. -/
theorem Engine.inspect_binsMove (e : Engine) (side : Side) (position : Position) (bank : LaneBank) (recipes : Recipes)
    (cols : List (Nat × Byte)) :
    ((e.stageLevels bank (e.correct cols)).stagePinholes side position bank recipes (e.correct cols)).BinsMove
      (e.inspect side position bank recipes cols) := by
  have means := e.stageLevels_meansFit bank (e.correct_le cols)
  exact Engine.stageStreaks_moves side position bank recipes (e.correct_le cols)
    (means.of_levels (Engine.stagePinholes_laneLevels ..))

theorem Engine.inspect_laneLevels (e : Engine) (side : Side) (position : Position) (bank : LaneBank) (recipes : Recipes)
    (cols : List (Nat × Byte)) (i : LaneId) :
    (e.inspect side position bank recipes cols).laneLevels[i] = laneLevel bank[i] (e.correct cols) := by
  rw [(e.inspect_binsMove side position bank recipes cols).laneLevels, Engine.stagePinholes_laneLevels]
  exact e.stageLevels_get bank _ i

theorem Engine.inspect_runList (e : Engine) (side : Side) (position : Position) (bank : LaneBank) (recipes : Recipes)
    (cols : List (Nat × Byte)) : (e.inspect side position bank recipes cols).runList = [] := by
  have kept := (e.inspect_binsMove side position bank recipes cols).rest
  exact (Engine.field_eq Engine.besidesBins Engine.runList (fun _ => rfl) kept).trans
    (Engine.stagePinholes_runList _ side position bank recipes _)

/-! ### Stage 7 -/

/-- The engine without what a teach changes. -/
def Engine.besidesTeach (e : Engine) : Engine := { e with teach := none, cal := [], recordList := [] }

/-- The engine without its calibration table. -/
def Engine.besidesCalibration (e : Engine) : Engine := { e with cal := [] }

theorem Engine.foldl_teachGain_rest (target : Nat) (l : List (Nat × TeachColumn)) (e : Engine) :
    (l.foldl (Engine.teachGain target) e).besidesCalibration = e.besidesCalibration := by
  induction l generalizing e with
  | nil => rfl
  | cons c rest ih => exact (ih _).trans rfl

/-- R82 to R84: stage 7 changes the teach and the calibration table alone, and adds a record of its engine. -/
theorem Engine.stageTeach_rest (e : Engine) (side : Side) (position : Position) (cols : List (Nat × Byte)) :
    (e.stageTeach side position cols).besidesTeach = e.besidesTeach := by
  unfold Engine.stageTeach
  split
  · rfl
  · simp only
    split
    · rw [Engine.finishTeach_eq]
      exact congrArg (fun x : Engine => { x with teach := none, recordList := [] }) (Engine.foldl_teachGain_rest _ _ e)
    · rfl

theorem Engine.stageTeach_ownRecords {e : Engine} {side : Side} (own : e.OwnRecords side) (position : Position)
    (cols : List (Nat × Byte)) : (e.stageTeach side position cols).OwnRecords side := by
  unfold Engine.stageTeach
  split
  case h_1 => exact own
  case h_2 t _ =>
    simp only
    split
    · rw [Engine.finishTeach_eq]
      refine Engine.OwnRecords.addRecords ?_ _
      have records := Engine.field_eq Engine.besidesCalibration Engine.recordList (fun _ => rfl)
        (e.foldl_teachGain_rest t.target (e.observeLine t cols).taughtColumns)
      exact fun o mem => own o (records ▸ mem)
    · exact own

/-! ### The whole operation -/

/-- R72, R73: the engine in front of stage 7, behind the dropped lines and stages 3 to 6 of the line. -/
theorem Engine.runLine_inspected (e : Engine) (side : Side) (bank : LaneBank) (recipes : Recipes) (line : LineEntry) :
    Engine.Inspected side e
      ((e.dropPasses side line.position bank recipes (line.precedingDrop.getD 0)).inspect side line.position bank
        recipes line.cols) :=
  (e.dropPasses_inspected side line.position bank recipes _).trans (Engine.inspect_inspected ..)

/-- R72, R73, R76: the stages in their order, with the line corrected by the calibration table at the take. -/
theorem Engine.runLine_eq (e : Engine) (side : Side) (bank : LaneBank) (recipes : Recipes) (line : LineEntry) :
    e.runLine side bank recipes line
      = (((((e.dropPasses side line.position bank recipes (line.precedingDrop.getD 0)).stageLevels bank
              (e.correct line.cols)).stagePinholes side line.position bank recipes (e.correct line.cols)).stageStreaks
            side line.position bank recipes (e.correct line.cols)).stageTeach side line.position line.cols) := by
  have cal := (e.dropPasses_inspected side line.position bank recipes (line.precedingDrop.getD 0)).cal
  rw [← Engine.correct_congr cal]
  rfl

/-- The engine without what stages 3 to 7 change. -/
def Engine.besidesLine (e : Engine) : Engine := { e.besidesInspection with teach := none, cal := [] }

/-- What a line operation behind its changeover stage leaves of its engine. -/
structure Engine.LineRun (side : Side) (bank : LaneBank) (line : LineEntry) (e f : Engine) : Prop where
  inFlight : f.inFlight = e.inFlight
  held : f.held = e.held
  snapshot : f.snapshot = e.snapshot
  binWidth : f.binWidth = e.binWidth
  runList : f.runList = []
  idle : e.teach = none → f.teach = none ∧ f.cal = e.cal
  levels : ∀ i : LaneId, f.laneLevels[i] = laneLevel bank[i] (e.correct line.cols)
  records : e.OwnRecords side → f.OwnRecords side

theorem Engine.runLine_run (e : Engine) (side : Side) (bank : LaneBank) (recipes : Recipes) (line : LineEntry) :
    Engine.LineRun side bank line e (e.runLine side bank recipes line) := by
  have drops := e.dropPasses_inspected side line.position bank recipes (line.precedingDrop.getD 0)
  have runs := e.runLine_inspected side bank recipes line
  rw [Engine.runLine]
  generalize e.dropPasses side line.position bank recipes (line.precedingDrop.getD 0) = passed at drops runs ⊢
  have levels := passed.inspect_laneLevels side line.position bank recipes line.cols
  have runList := passed.inspect_runList side line.position bank recipes line.cols
  generalize passed.inspect side line.position bank recipes line.cols = f at runs levels runList ⊢
  have taught := f.stageTeach_rest side line.position line.cols
  have kept : (f.stageTeach side line.position line.cols).besidesLine = e.besidesLine := by
    refine .trans ?_ (congrArg (fun x : Engine => { x with teach := none, cal := [] }) runs.rest)
    exact congrArg (fun x : Engine => { x.untouched with recordList := [] }) taught
  exact
    { inFlight := Engine.field_eq Engine.besidesLine Engine.inFlight (fun _ => rfl) kept
      held := Engine.field_eq Engine.besidesLine Engine.held (fun _ => rfl) kept
      snapshot := Engine.field_eq Engine.besidesLine Engine.snapshot (fun _ => rfl) kept
      binWidth := Engine.field_eq Engine.besidesLine Engine.binWidth (fun _ => rfl) kept
      runList := (Engine.field_eq Engine.besidesTeach Engine.runList (fun _ => rfl) taught).trans runList
      idle := fun idle => by
        rw [Engine.stageTeach_idle side line.position line.cols (runs.teach.trans idle)]
        exact ⟨runs.teach.trans idle, runs.cal⟩
      levels := fun i => by
        rw [Engine.field_eq Engine.besidesTeach Engine.laneLevels (fun _ => rfl) taught, levels i,
          Engine.correct_congr drops.cal]
      records := fun own => Engine.stageTeach_ownRecords (runs.ownRecords own) line.position line.cols }

/-- R76, R79, R80: the level of a lane is the mean of the corrected values of its coated zone, or blind without one. -/
theorem laneLevel_correct (e : Engine) (r : LaneRecord) (cols : List (Nat × Byte)) :
    laneLevel r (e.correct cols)
      = (let zone := (cols.filter fun c => decide (r.coatedFirst ≤ c.1 ∧ c.1 ≤ r.coatedLast)).map fun c =>
          correctedValue c.2.toNat (e.calEntry c.1).dark (e.calEntry c.1).gain
        if r.enabled = false then .none else if zone = [] then .blind else .mean (zone.sum / zone.length)) := by
  have zone : ((e.correct cols).filter fun c => decide (r.coatedFirst ≤ c.1) && decide (c.1 ≤ r.coatedLast)).map (·.2)
      = (cols.filter fun c => decide (r.coatedFirst ≤ c.1 ∧ c.1 ≤ r.coatedLast)).map fun c =>
        correctedValue c.2.toNat (e.calEntry c.1).dark (e.calEntry c.1).gain := by
    simp only [Engine.correct, List.filter_map, List.map_map, Bool.decide_and]
    rfl
  simp only [laneLevel, zone]
  cases r.enabled with
  | false => rfl
  | true => simp only [if_true, Bool.true_eq_false, if_false, List.isEmpty_iff]

/-! ### The take -/

/-- R71: an engine that has taken a line and not yet begun its stages. -/
def Engine.taking (e : Engine) (line : LineEntry) : Engine := { e with inFlight := some line, recordList := [] }

theorem Engine.taking_ownRecords (e : Engine) (line : LineEntry) (side : Side) : (e.taking line).OwnRecords side := by
  simp [Engine.taking, Engine.OwnRecords]

theorem State.beginLine_engine (s : State) (side : Side) (line : LineEntry) (rest : List LineEntry) :
    (s.beginLine side line rest).eng.get side = (s.eng.get side).taking line := PerSide.get_set_same ..

/-- What the changeover stage of a take leaves of the part: the engine of its side still has the line, the calibration
table and the bin width, and nothing beyond that engine, its queue and the lane map has changed. -/
structure State.TakeSettled (s : State) (side : Side) (line : LineEntry) (rest : List LineEntry) (t : State) : Prop where
  inFlight : (t.eng.get side).inFlight = some line
  held : (t.eng.get side).held = (s.eng.get side).held
  cal : (t.eng.get side).cal = (s.eng.get side).cal
  binWidth : (t.eng.get side).binWidth = (s.eng.get side).binWidth
  teach : (s.eng.get side).teach = none → (t.eng.get side).teach = none
  records : (t.eng.get side).OwnRecords side
  engines : ∀ other, other ≠ side → t.eng.get other = s.eng.get other
  lanes : s.lanes.Changeover side t.lanes
  beyond : { t with eng := s.eng, lanes := s.lanes }
    = { s with asm := s.asm.set side { (s.asm.get side) with queue := rest } }

theorem State.stageChangeover_settled (s : State) (side : Side) (line : LineEntry) (rest : List LineEntry) :
    s.TakeSettled side line rest ((s.beginLine side line rest).stageChangeover side line.position) := by
  obtain ⟨e, l, frame, engine, lanes⟩ := (s.beginLine side line rest).stageChangeover_changeover side line.position
  rw [State.beginLine_engine] at engine
  rw [frame]
  constructor
  case beyond => rfl
  case lanes => exact lanes
  case engines =>
    intro other ne
    exact (PerSide.get_set_ne _ _ ne).trans (PerSide.get_set_ne _ _ ne)
  all_goals rw [State.withSide_engine]
  case inFlight => exact Engine.field_eq Engine.besidesChangeover Engine.inFlight (fun _ => rfl) engine.rest
  case held => exact (Engine.field_eq Engine.besidesChangeover Engine.held (fun _ => rfl) engine.rest).trans rfl
  case cal => exact (Engine.field_eq Engine.besidesChangeover Engine.cal (fun _ => rfl) engine.rest).trans rfl
  case binWidth => exact (Engine.field_eq Engine.besidesChangeover Engine.binWidth (fun _ => rfl) engine.rest).trans rfl
  case teach => exact engine.teach
  case records => exact engine.records ((s.eng.get side).taking_ownRecords line side)

end Sys2Proof.Machine

open Sys2Proof Sys2Proof.Machine

/-- Settles O28: the changeover stage settles the engine and the lane map, and the stages behind it run the line. -/
theorem lineTakeRunsOperation : Obligations.LineTakeRunsOperation := by
  intro s side line rest free unheld queue corrected cols settled bank recipes snapped passed
  have taken := (exec_lineTake_taken free unheld queue).trans
    (congrArg Host.Outcome.next ((s.beginLine side line rest).runOperation_eq side line))
  have frame : s.TakeSettled side line rest settled := s.stageChangeover_settled side line rest
  have same_recipes : settled.lanes.recipes = recipes := frame.lanes.recipes
  have line_run := snapped.runLine_run side bank recipes line
  have own := line_run.records frame.records
  have same_correction : snapped.correct line.cols = (s.eng.get side).correct line.cols :=
    Engine.correct_congr frame.cal line.cols
  obtain ⟨t, runs, result⟩ : ∃ t, exec (.lineTake side) s = .next t
      ∧ t = settled.withSide side (snapped.runLine side bank recipes line) settled.lanes := by
    refine ⟨_, taken, ?_⟩
    change settled.withSide side (Engine.runLine { (settled.eng.get side) with snapshot := some settled.lanes.recipes }
      side bank settled.lanes.recipes line) settled.lanes = _
    rw [same_recipes]
  have engine : t.eng.get side = snapped.runLine side bank recipes line := by rw [result, State.withSide_engine]
  have lanes : t.lanes = settled.lanes := by rw [result, State.withSide_lanes]
  have others : ∀ other, other ≠ side → t.eng.get other = s.eng.get other := fun other ne => by
    rw [result, ← frame.engines other ne]
    exact PerSide.get_set_ne _ _ ne
  have beyond : { t with eng := s.eng, lanes := s.lanes }
      = { s with asm := s.asm.set side { (s.asm.get side) with queue := rest } } := by
    rw [result]
    exact frame.beyond
  have banks : t.activeBank side = bank := congrArg (fun l : LaneMap => (l.banks.get side).get (l.active.get side)) lanes
  refine ⟨t, runs, ?_⟩
  rw [banks, engine, lanes]
  refine ⟨?_, rfl, line_run.inFlight.trans frame.inFlight, (line_run.held.trans frame.held).trans unheld,
    line_run.snapshot, line_run.runList, line_run.binWidth.trans frame.binWidth, fun idle => ?_, fun i => ?_, own,
    (congrArg State.asm beyond :), frame.lanes.recipes, frame.lanes.banks,
    fun other ne => ⟨others other ne, frame.lanes.active other ne, frame.lanes.arrivals other ne⟩,
    (congrArg State.pos beyond :), (congrArg State.heads beyond :), (congrArg State.store beyond :),
    (congrArg State.marks beyond :), (congrArg State.ports beyond :), (congrArg State.runState beyond :),
    (congrArg State.now beyond :), (congrArg State.freeDraws beyond :)⟩
  · rw [Engine.runLine_eq, same_correction]
    rfl
  · obtain ⟨teach, cal⟩ := line_run.idle (frame.teach idle)
    exact ⟨teach, cal.trans frame.cal⟩
  · rw [line_run.levels i, same_correction]
    exact laneLevel_correct (s.eng.get side) bank[i] line.cols
end

section
/-! SUPPORT. The commands an engine takes or holds (R75, R78, R81, R85): how each reaches its engine, and what the engine
makes of it. -/

namespace Sys2Proof.Machine

/-! ### Reaching the engine (R75; R156 check 5) -/

/-- R75: a command that finds a line in flight is held. -/
theorem State.reachEngine_held {s : State} {side : Side} (flies : (s.eng.get side).inFlight.isSome = true) (p : Port)
    (len : Nat) (c : EngineCommand) (body : List Byte) :
    (s.begun p len).reachEngine p side c body = s.commandHeld p len side { port := p, command := c, body := body } :=
  if_pos flies

/-- R75: a command that finds no line in flight is taken at once. -/
theorem State.reachEngine_taken {s : State} {side : Side} (free : (s.eng.get side).inFlight = none) (p : Port)
    (len : Nat) (c : EngineCommand) (body : List Byte) :
    (s.begun p len).reachEngine p side c body = (s.begun p len).takeEngineCommand p side c body :=
  if_neg (by simp [State.begun, free])

theorem exec_setCal_read {s : State} {p : Port} {body : List Byte} {b : SetCalBody} (taken : s.takes p)
    (read : readSetCal body = some b) :
    exec (.setCal p body) s
      = .next ((readSide b.side).elim (s.refused p body.length .range) fun side =>
          (s.begun p body.length).reachEngine p side .setCal body) := by
  refine congrArg Host.Outcome.next ((takeCommand_taken s p body readSetCal _ taken).trans ?_)
  rw [read]
  cases side : readSide b.side <;> simp only [side, State.refuse_begun, Option.elim]

theorem exec_teach_read {s : State} {p : Port} {body : List Byte} {b : TeachBody} (taken : s.takes p)
    (read : readTeach body = some b) :
    exec (.teach p body) s
      = .next ((readSide b.side).elim (s.refused p body.length .range) fun side =>
          (s.begun p body.length).reachEngine p side .teach body) := by
  refine congrArg Host.Outcome.next ((takeCommand_taken s p body readTeach _ taken).trans ?_)
  rw [read]
  cases side : readSide b.side <;> simp only [side, State.refuse_begun, Option.elim]

theorem exec_teachAbort_read {s : State} {p : Port} (sd : Byte) (taken : s.takes p) :
    exec (.teachAbort p [sd]) s
      = .next ((readSide sd).elim (s.refused p 1 .range) fun side =>
          (s.begun p 1).reachEngine p side .teachAbort [sd]) := by
  refine congrArg Host.Outcome.next ((takeCommand_taken s p [sd] readOneByte _ taken).trans ?_)
  cases side : readSide sd <;> simp only [readOneByte, side, List.length_singleton, State.refuse_begun, Option.elim]

/-! ### SET_CAL (R78) -/

theorem readCalEntries_flatMap (entries : List (Byte × Byte × Byte)) :
    readCalEntries (entries.flatMap fun x => [x.1, x.2.1, x.2.2])
      = some (entries.map fun x => (x.1.toNat, be16 x.2.1 x.2.2)) := by
  induction entries with
  | nil => rfl
  | cons x rest ih =>
    rw [List.flatMap_cons, List.map_cons]
    exact congrArg (Option.map _) ih

/-- R77: what an entry of a calibration table reads as after a write. -/
theorem Engine.calEntry_setCalEntry {e : Engine} (wf : sparseWf CalEntry.unity e.cal = true) (k column : Nat)
    (c : CalEntry) : (e.setCalEntry k c).calEntry column = if column = k then c else e.calEntry column :=
  sparseGet_sparseSet _ _ 0 _ _ _ wf

theorem Engine.setCalEntry_wf {e : Engine} (wf : sparseWf CalEntry.unity e.cal = true) (k : Nat) (c : CalEntry) :
    sparseWf CalEntry.unity (e.setCalEntry k c).cal = true := sparseWf_sparseSet _ _ _ _ wf

/-- R78: the entries of a SET_CAL stand from the first column on. -/
theorem Engine.calEntry_writeCal {e : Engine} (wf : sparseWf CalEntry.unity e.cal = true) (first : Nat)
    (entries : List (Nat × Nat)) (column : Nat) :
    (e.writeCal first entries).calEntry column
      = if column < first then e.calEntry column
        else (entries[column - first]?).elim (e.calEntry column) fun x => { dark := x.1, gain := min 8191 x.2 } := by
  induction entries generalizing first e with
  | nil => simp [Engine.writeCal]
  | cons x rest ih =>
    rw [Engine.writeCal, ih (Engine.setCalEntry_wf wf ..), Engine.calEntry_setCalEntry wf]
    rcases lt_trichotomy column first with before | rfl | behind
    · simp [before, before.ne, before.trans (Nat.lt_succ_self first)]
    · simp
      rfl
    · have later : column - first = column - (first + 1) + 1 := by omega
      simp [later, behind.ne', behind.not_gt, Nat.not_lt.mpr (Nat.succ_le_of_lt behind)]

theorem Engine.writeCal_eq (entries : List (Nat × Nat)) (first : Nat) (e : Engine) :
    e.writeCal first entries = { e with cal := (e.writeCal first entries).cal } := by
  induction entries generalizing first e with
  | nil => rfl
  | cons x rest ih =>
    rw [Engine.writeCal, ih]
    rfl

/-- R78: SET_CAL at the engine is refused RANGE, then BUSY, and otherwise writes. -/
theorem State.takeSetCal_cases (s : State) (p : Port) (len : Nat) (side : Side) (b : SetCalBody) :
    let fits := 1 ≤ b.entries.length ∧ b.entries.length ≤ 256 ∧ b.firstColumn + b.entries.length ≤ 16384
    let e := s.eng.get side
    (¬fits → (s.begun p len).takeSetCal p side b = s.refused p len .range)
      ∧ (fits → e.teach.isSome = true → (s.begun p len).takeSetCal p side b = s.refused p len .busy)
      ∧ (fits → e.teach = none →
        (s.begun p len).takeSetCal p side b
          = { s.answered p len { code := .ok, body := [] } with
              eng := s.eng.set side (e.writeCal b.firstColumn b.entries) }) := by
  intro fits e
  have test : (b.entries.length = 0 ∨ 256 < b.entries.length ∨ 16383 < b.firstColumn + b.entries.length - 1) ↔ ¬fits := by
    simp only [fits]
    omega
  refine ⟨fun unfit => ?_, fun fit teaching => ?_, fun fit idle => ?_⟩
  · rw [State.takeSetCal, if_pos (test.mpr unfit), State.refuse_begun]
  · rw [State.takeSetCal, if_neg (fun bad => test.mp bad fit)]
    exact (if_pos teaching).trans (State.refuse_begun ..)
  · have idle' : ¬((s.begun p len).eng.get side).teach.isSome = true := by
      change ¬e.teach.isSome = true
      simp [idle]
    rw [State.takeSetCal, if_neg (fun bad => test.mp bad fit), if_neg idle']
    exact s.answerOk_lanes p len _ s.lanes s.store

/-! ### TEACH and TEACH_ABORT (R81, R85) -/

/-- R81: TEACH at the engine is refused RANGE, then STATE, then BUSY, and otherwise begins a teach. -/
theorem State.takeTeach_cases (s : State) (p : Port) (len : Nat) (side : Side) (b : TeachBody) (byte : b.target ≤ 255) :
    let fits := (b.n = 16 ∨ b.n = 32 ∨ b.n = 64 ∨ b.n = 128 ∨ b.n = 256) ∧ 1 ≤ b.target
    let e := s.eng.get side
    (¬fits → (s.begun p len).takeTeach p side b = s.refused p len .range)
      ∧ (fits → s.runState ≠ .inspecting → (s.begun p len).takeTeach p side b = s.refused p len .state)
      ∧ (fits → s.runState = .inspecting → e.teach.isSome = true →
        (s.begun p len).takeTeach p side b = s.refused p len .busy)
      ∧ (fits → s.runState = .inspecting → e.teach = none →
        (s.begun p len).takeTeach p side b
          = { s.answered p len { code := .ok, body := [] } with
              eng := s.eng.set side
                { e with teach := some { n := b.n, target := b.target, taken := 0, columns := [] } } }) := by
  intro fits e
  have test : (!([16, 32, 64, 128, 256].contains b.n) || decide (b.target < 1) || decide (255 < b.target)) = true
      ↔ ¬fits := by
    simp only [fits, Bool.or_eq_true, Bool.not_eq_true', List.contains_eq_mem, decide_eq_false_iff_not, List.mem_cons,
      List.not_mem_nil, or_false, decide_eq_true_eq]
    omega
  refine ⟨fun unfit => ?_, fun fit run => ?_, fun fit run teaching => ?_, fun fit run idle => ?_⟩
  · rw [State.takeTeach, if_pos (test.mpr unfit), State.refuse_begun]
  all_goals rw [State.takeTeach, if_neg (fun bad => test.mp bad fit)]
  · exact (if_pos run).trans (State.refuse_begun ..)
  · refine (if_neg fun other => other run).trans ?_
    exact (if_pos teaching).trans (State.refuse_begun ..)
  · refine (if_neg fun other => other run).trans ((if_neg ?_).trans ?_)
    · change ¬e.teach.isSome = true
      simp [idle]
    · exact s.answerOk_lanes p len _ s.lanes s.store

/-- R85: TEACH_ABORT at the engine is refused STATE, or ends the teach with its record. -/
theorem State.takeTeachAbort_cases (s : State) (p : Port) (len : Nat) (side : Side) :
    let e := s.eng.get side
    (e.teach = none → (s.begun p len).takeTeachAbort p side = s.refused p len .state)
      ∧ ∀ k : Teach, e.teach = some k →
        (s.begun p len).takeTeachAbort p side
          = { s.answered p len { code := .ok, body := [] } with
              eng := s.eng.set side { e with teach := none }
              store := s.store.adding
                [plainOffer (.engine side)
                  { side := some side, lane := none, position := s.pos.web,
                    content := .teachAborted .abort k.n k.taken } none] } := by
  intro e
  refine ⟨fun idle => ?_, fun k teaching => ?_⟩
  · have none_runs : ((s.begun p len).eng.get side).teach = none := idle
    rw [State.takeTeachAbort, none_runs, State.refuse_begun]
  · have runs : ((s.begun p len).eng.get side).teach = some k := teaching
    simp only [State.takeTeachAbort, runs, State.offerAll_adding]
    exact s.answerOk_lanes p len _ s.lanes _

end Sys2Proof.Machine

open Sys2Proof Sys2Proof.Machine

/-- Settles O30: the body is read, the side is that of the byte, and the command is held, refused or taken. -/
theorem setCalWritesEntries : Obligations.SetCalWritesEntries := by
  intro s p sd f1 f0 n1 n0 entries taken count body first fits
  let b : SetCalBody :=
    { side := sd, firstColumn := first, entries := entries.map fun x => (x.1.toNat, be16 x.2.1 x.2.2) }
  have length : b.entries.length = entries.length := List.length_map ..
  have read : readSetCal body = some b := by
    simp only [body, readSetCal, readCalEntries_flatMap, List.length_map, count, if_true]
    rfl
  have reaches := exec_setCal_read taken read
  refine ⟨fun big => ?_, fun side spelled => ?_⟩
  · rw [reaches, readSide_ge big]
    rfl
  · have same_side : readSide b.side = some side := (congrArg readSide spelled).trans (readSide_sideByte side)
    rw [same_side] at reaches
    have takes (free : (s.eng.get side).inFlight = none) :
        exec (.setCal p body) s = .next ((s.begun p body.length).takeSetCal p side b) := by
      refine reaches.trans (congrArg Host.Outcome.next ((State.reachEngine_taken free ..).trans ?_))
      simp only [State.takeEngineCommand, read]
    have cases := s.takeSetCal_cases p body.length side b
    simp only [length] at cases
    obtain ⟨range, busy, writes⟩ := cases
    refine ⟨fun flies => ?_, fun free unfit => ?_, fun free fit teaching => ?_, fun free fit idle inRange => ?_⟩
    · exact reaches.trans (congrArg Host.Outcome.next (State.reachEngine_held flies ..))
    · exact (takes free).trans (congrArg Host.Outcome.next (range unfit))
    · exact (takes free).trans (congrArg Host.Outcome.next (busy fit teaching))
    · refine ⟨((s.eng.get side).writeCal first b.entries).cal, ?_, fun column => ?_⟩
      · rw [takes free, writes fit idle, ← Engine.writeCal_eq]
      · rw [← Engine.writeCal_eq, Engine.calEntry_writeCal inRange.1, List.getElem?_map]
        cases entries[column - first]? <;> rfl

/-- Settles O31: as SET_CAL, TEACH and TEACH_ABORT are held, refused or taken. -/
theorem teachBeginsAndAborts : Obligations.TeachBeginsAndAborts := by
  intro s p sd n1 n0 target taken body n fits
  let b : TeachBody := { side := sd, n := n, target := target.toNat }
  have teach := exec_teach_read (b := b) taken (body := body) rfl
  have abort := exec_teachAbort_read sd taken
  refine ⟨fun big => ?_, fun side spelled => ?_⟩
  · rw [readSide_ge big] at abort
    rw [show readSide b.side = none from readSide_ge big] at teach
    exact ⟨teach, abort⟩
  · have same_side : readSide sd = some side := (congrArg readSide spelled).trans (readSide_sideByte side)
    rw [same_side] at abort
    rw [show readSide b.side = some side from same_side] at teach
    refine ⟨fun flies => ?_, fun free => ?_⟩
    · exact ⟨teach.trans (congrArg Host.Outcome.next (State.reachEngine_held flies ..)),
        abort.trans (congrArg Host.Outcome.next (State.reachEngine_held flies ..))⟩
    · obtain ⟨range, state, busy, begins⟩ := s.takeTeach_cases p 4 side b (Nat.le_of_lt_succ target.isLt)
      obtain ⟨idle, ends⟩ := s.takeTeachAbort_cases p 1 side
      have teach_taken : exec (.teach p body) s = .next ((s.begun p 4).takeTeach p side b) :=
        teach.trans (congrArg Host.Outcome.next (State.reachEngine_taken free ..))
      have abort_taken : exec (.teachAbort p [sd]) s = .next ((s.begun p 1).takeTeachAbort p side) :=
        abort.trans (congrArg Host.Outcome.next (State.reachEngine_taken free ..))
      rw [teach_taken, abort_taken]
      exact ⟨fun unfit => congrArg _ (range unfit), fun fit run => congrArg _ (state fit run),
        fun fit run teaching => congrArg _ (busy fit run teaching), fun fit run idle => congrArg _ (begins fit run idle),
        fun none_runs => congrArg _ (idle none_runs), fun k runs => congrArg _ (ends k runs)⟩
end

section
/-! SUPPORT. The end of a line operation (R74, R75): what a command that an engine takes can do, and what the held commands,
taken one after the other, leave of the part. -/

namespace Sys2Proof.Machine

/-! ### A command that an engine takes -/

/-- The engine without what SET_CAL, TEACH and TEACH_ABORT change. -/
def Engine.besidesCommand (e : Engine) : Engine := { e with cal := [], teach := none }

theorem Engine.fields_of_besidesCommand {e f : Engine} (same : f.besidesCommand = e.besidesCommand) :
    f.inFlight = e.inFlight ∧ f.held = e.held ∧ f.recordList = e.recordList ∧ f.blobs = e.blobs ∧ f.bins = e.bins
      ∧ f.streaks = e.streaks ∧ f.snapshot = e.snapshot := by
  obtain ⟨⟩ := e
  obtain ⟨⟩ := f
  simp only [Engine.besidesCommand, Engine.mk.injEq] at same
  simp only [same, and_self]

/-- R78, R81, R85: what a command may do when its engine takes it: it changes the calibration table or the teach, may make
a record, and is answered. -/
def State.CommandTaken (s : State) (p : Port) (side : Side) (t : State) : Prop :=
  ∃ (e : Engine) (made : List Offer) (r : Response),
    t = ({ s with eng := s.eng.set side e, store := s.store.adding made } : State).respond p r
      ∧ e.besidesCommand = (s.eng.get side).besidesCommand

theorem State.CommandTaken.of_answer (s : State) (p : Port) (side : Side) (r : Response) :
    s.CommandTaken p side (s.respond p r) :=
  ⟨s.eng.get side, [], r, by rw [PerSide.set_get, Store.adding_nil], rfl⟩

/-- A change of the engine's own tables, answered. -/
theorem State.CommandTaken.of_engine (s : State) (p : Port) (side : Side) (r : Response) (f : Engine → Engine)
    (rest : (f (s.eng.get side)).besidesCommand = (s.eng.get side).besidesCommand) :
    s.CommandTaken p side ((s.modEng side f).respond p r) :=
  ⟨f (s.eng.get side), [], r, by rw [Store.adding_nil]; rfl, rest⟩

theorem State.takeSetCal_taken (s : State) (p : Port) (side : Side) (b : SetCalBody) :
    s.CommandTaken p side (s.takeSetCal p side b) := by
  unfold State.takeSetCal
  split_ifs
  · exact .of_answer ..
  · exact .of_answer ..
  · refine .of_engine s p side _ _ ?_
    rw [Engine.writeCal_eq]
    rfl

theorem State.takeTeach_taken (s : State) (p : Port) (side : Side) (b : TeachBody) :
    s.CommandTaken p side (s.takeTeach p side b) := by
  unfold State.takeTeach
  split_ifs
  · exact .of_answer ..
  · exact .of_answer ..
  · exact .of_answer ..
  · exact .of_engine s p side _ _ rfl

theorem State.takeTeachAbort_taken (s : State) (p : Port) (side : Side) :
    s.CommandTaken p side (s.takeTeachAbort p side) := by
  unfold State.takeTeachAbort
  split
  · exact .of_answer ..
  · rw [State.offerAll_adding]
    exact ⟨{ (s.eng.get side) with teach := none }, _, _, rfl, rfl⟩

theorem State.takeEngineCommand_taken (s : State) (p : Port) (side : Side) (c : EngineCommand) (body : List Byte) :
    s.CommandTaken p side (s.takeEngineCommand p side c body) := by
  cases c with
  | setCal =>
    simp only [State.takeEngineCommand]
    split
    · exact s.takeSetCal_taken p side _
    · exact .of_answer ..
  | teach =>
    simp only [State.takeEngineCommand]
    split
    · exact s.takeTeach_taken p side _
    · exact .of_answer ..
  | teachAbort => exact s.takeTeachAbort_taken p side

/-! ### The held commands (R74, R75, R154) -/

/-- The part without what the held commands of a side change. -/
def State.besidesHeld (s : State) (u : State) : State :=
  { s with freeDraws := u.freeDraws, eng := u.eng, store := u.store, ports := u.ports }

/-- What held commands that came in at these ports leave of the part when their engine takes them. -/
structure State.HeldTaken (side : Side) (ports : List Port) (s t : State) : Prop where
  freeDraws : t.freeDraws = s.freeDraws + ports.length
  engine : (t.eng.get side).besidesCommand = (s.eng.get side).besidesCommand
  engines : ∀ other, other ≠ side → t.eng.get other = s.eng.get other
  answered : ∀ p ∈ ports, (t.ports.get p).phase = .responseHeld ∧ (t.ports.get p).held.isSome = true
  unanswered : ∀ p, p ∉ ports → t.ports.get p = s.ports.get p
  store : ∃ made, t.store = s.store.adding made
  beyond : t.besidesHeld s = s

theorem State.HeldTaken.refl (side : Side) (s : State) : s.HeldTaken side [] s :=
  ⟨rfl, rfl, fun _ _ => rfl, nofun, fun _ _ => rfl, ⟨[], (Store.adding_nil _).symm⟩, rfl⟩

/-- R155: a port that a later command came in at is answered anew, and any other keeps its answer. -/
theorem State.HeldTaken.trans {side : Side} {first later : List Port} {s t u : State} (h : s.HeldTaken side first t)
    (k : t.HeldTaken side later u) : s.HeldTaken side (first ++ later) u := by
  obtain ⟨made, store⟩ := h.store
  obtain ⟨more, store'⟩ := k.store
  refine ⟨?_, k.engine.trans h.engine, fun other ne => (k.engines other ne).trans (h.engines other ne), ?_, ?_, ?_, ?_⟩
  · rw [k.freeDraws, h.freeDraws, List.length_append, Nat.add_assoc]
  · intro p mem
    by_cases last : p ∈ later
    · exact k.answered p last
    · rw [k.unanswered p last]
      exact h.answered p ((List.mem_append.mp mem).resolve_right last)
  · intro p out
    obtain ⟨out_first, out_later⟩ := not_or.mp fun mem => out (List.mem_append.mpr mem)
    rw [k.unanswered p out_later, h.unanswered p out_first]
  · exact ⟨made ++ more, by rw [store', store, Store.adding_adding]⟩
  · calc u.besidesHeld s = (u.besidesHeld t).besidesHeld s := rfl
      _ = s := by rw [k.beyond, h.beyond]

theorem State.takeHeld_taken (side : Side) (s : State) (c : HeldCommand) :
    s.HeldTaken side [c.port] (State.takeHeld side s c) := by
  obtain ⟨e, made, r, taken, rest⟩ :=
    (s.noteTransfer c.port).takeEngineCommand_taken c.port side c.command c.body
  have same : State.takeHeld side s c = _ := taken
  rw [same]
  refine ⟨rfl, ?_, fun other ne => PerSide.get_set_ne _ _ ne, fun p mem => ?_, fun p out => ?_, ⟨made, rfl⟩, rfl⟩
  · rw [State.respond_eng, PerSide.get_set_same]
    exact rest
  · rw [List.mem_singleton.mp mem, State.respond, State.modPort_ports, PerPort.get_set_same]
    exact ⟨rfl, rfl⟩
  · have ne : p ≠ c.port := fun same => out (List.mem_singleton.mpr same)
    exact (PerPort.get_set_ne _ _ ne).trans (PerPort.get_set_ne _ _ ne)

theorem State.foldl_takeHeld_taken (side : Side) (held : List HeldCommand) (s : State) :
    s.HeldTaken side (held.map (·.port)) (held.foldl (State.takeHeld side) s) := by
  induction held generalizing s with
  | nil => exact .refl side s
  | cons c rest ih => exact (State.takeHeld_taken side s c).trans (ih _)

/-! ### The release (R74) -/

/-- R74: the part when the line in flight has been released and no held command been taken. -/
def State.released (s : State) (side : Side) : State :=
  { s with
    eng := s.eng.set side
      { (s.eng.get side) with inFlight := none, held := [], laneLevels := Vector.replicate 16 .none } }

theorem State.released_engine (s : State) (side : Side) :
    (s.released side).eng.get side
      = { (s.eng.get side) with inFlight := none, held := [], laneLevels := Vector.replicate 16 .none } :=
  PerSide.get_set_same ..

theorem exec_lineOperationEnd {s : State} {side : Side} (flies : (s.eng.get side).inFlight.isSome = true)
    (ended : (s.eng.get side).recordList = []) :
    exec (.lineOperationEnd side) s
      = .next ((s.eng.get side).held.foldl (State.takeHeld side) (s.released side)) :=
  congrArg Host.Outcome.next (if_pos ⟨flies, ended⟩)

/-- R85, R154: a single TEACH_ABORT that was held ends the teach. -/
theorem State.takeHeld_teachAbort {s : State} {side : Side} {c : HeldCommand} {k : Teach}
    (command : c.command = .teachAbort) (teaching : (s.eng.get side).teach = some k) :
    State.takeHeld side s c
      = { s with
          freeDraws := s.freeDraws + 1
          eng := s.eng.set side { (s.eng.get side) with teach := none }
          ports := s.ports.set c.port
            { (s.ports.get c.port) with
              phase := .responseHeld, held := some { code := .ok, body := [] }
              shownStatus := (s.ports.get c.port).shownStatus.or
                (if Config.transferBegun s.freeDraws then some (s.statusByte c.port) else none) }
          store := s.store.adding
            [plainOffer (.engine side)
              { side := some side, lane := none, position := s.pos.web, content := .teachAborted .abort k.n k.taken }
              none] } := by
  have runs : ((s.noteTransfer c.port).eng.get side).teach = some k := teaching
  simp only [State.takeHeld, command, State.takeEngineCommand, State.takeTeachAbort, runs, State.offerAll_adding]
  cases c.port <;> rfl

/-! ### The same commands at an idle engine (R75) -/

theorem readCalEntries_of_length {n : Nat} {bytes : List Byte} (length : bytes.length = 3 * n) :
    ∃ entries, readCalEntries bytes = some entries ∧ entries.length = n := by
  induction n generalizing bytes with
  | zero =>
    rw [List.length_eq_zero_iff.mp length]
    exact ⟨[], rfl, rfl⟩
  | succ n ih =>
    match bytes, length with
    | d :: hi :: lo :: rest, length =>
      obtain ⟨entries, read, count⟩ := ih (bytes := rest) (by simp only [List.length_cons] at length; omega)
      exact ⟨(d.toNat, be16 hi lo) :: entries, congrArg (Option.map _) read, congrArg Nat.succ count⟩
    | [], length => simp at length
    | [_], length => simp at length; omega
    | [_, _], length => simp at length; omega

/-- R171: a SET_CAL body of an allowed length is read. -/
theorem readSetCal_of_lengthAllowed {p : Port} {sd : Byte} {rest : List Byte}
    (allowed : (Instr.setCal p (sd :: rest)).lengthAllowed = true) :
    ∃ b, readSetCal (sd :: rest) = some b ∧ b.side = sd := by
  match rest, allowed with
  | f1 :: f0 :: n1 :: n0 :: bytes, allowed =>
    obtain ⟨entries, read, count⟩ := readCalEntries_of_length (of_decide_eq_true allowed)
    have same : entries.length = be16 n1 n0 := count
    refine ⟨{ side := sd, firstColumn := be16 f1 f0, entries := entries }, ?_, rfl⟩
    simp only [readSetCal, read, same, if_true]
  | [], allowed => cases allowed
  | [_], allowed => cases allowed
  | [_, _], allowed => cases allowed
  | [_, _, _], allowed => cases allowed

/-- R171: a TEACH body of the allowed length is read. -/
theorem readTeach_of_lengthAllowed {p : Port} {sd : Byte} {rest : List Byte}
    (allowed : (Instr.teach p (sd :: rest)).lengthAllowed = true) :
    ∃ b, readTeach (sd :: rest) = some b ∧ b.side = sd := by
  have length : rest.length = 3 := Nat.succ.inj (of_decide_eq_true allowed)
  obtain ⟨n1, n0, target, rfl⟩ := List.length_eq_three.mp length
  exact ⟨{ side := sd, n := be16 n1 n0, target := target.toNat }, rfl, rfl⟩

end Sys2Proof.Machine

open Sys2Proof Sys2Proof.Machine

/-- Settles O33: the line is released, each held command is taken as a whole, and what one can do bounds what all do. -/
theorem lineOperationEndReleasesLine : Obligations.LineOperationEndReleasesLine := by
  refine ⟨fun s side flies ended => ?_, fun s p side rest taken free => ?_⟩
  · intro e released shown kept
    have held := State.foldl_takeHeld_taken side e.held (s.released side)
    have engine := held.engine
    rw [State.released_engine] at engine
    obtain ⟨made, store⟩ := held.store
    refine ⟨_, exec_lineOperationEnd flies ended, rfl, fun p runs executing => ?_, held.freeDraws.trans ?_, ?_, ?_⟩
    · simp only [State.statusByte, if_neg runs, executing]
    · rw [List.length_map]
      rfl
    · intro c k one command teaching
      have runs : ((s.released side).eng.get side).teach = some k := by
        rw [State.released_engine]
        exact teaching
      rw [one]
      exact State.takeHeld_teachAbort (s := s.released side) command runs
    · obtain ⟨inFlight, waiting, recordList, blobs, bins, streaks, snapshot⟩ := Engine.fields_of_besidesCommand engine
      refine ⟨inFlight, waiting, recordList.trans ended, blobs, bins, streaks, snapshot, fun c mem => ?_,
        fun p out => ?_, fun other ne => ?_, (congrArg State.asm held.beyond :), (congrArg State.pos held.beyond :),
        (congrArg State.heads held.beyond :), (congrArg State.lanes held.beyond :), (congrArg State.marks held.beyond :),
        (congrArg State.runState held.beyond :), (congrArg State.now held.beyond :), ?_⟩
      · exact held.answered _ (List.mem_map.mpr ⟨c, mem, rfl⟩)
      · refine held.unanswered p fun mem => ?_
        obtain ⟨c, mem, port⟩ := List.mem_map.mp mem
        exact out c mem port
      · exact (held.engines other ne).trans (PerSide.get_set_ne _ _ ne)
      · rw [store]
        exact ⟨rfl, rfl, made, rfl⟩
  · intro body takes
    refine ⟨fun allowed => ?_, fun allowed => ?_, fun allowed => ?_⟩
    · obtain ⟨b, read, same⟩ := readSetCal_of_lengthAllowed allowed
      rw [exec_setCal_read taken read, same, readSide_sideByte]
      exact congrArg Host.Outcome.next (State.reachEngine_taken free ..)
    · obtain ⟨b, read, same⟩ := readTeach_of_lengthAllowed allowed
      rw [exec_teach_read taken read, same, readSide_sideByte]
      exact congrArg Host.Outcome.next (State.reachEngine_taken free ..)
    · obtain rfl : rest = [] := List.length_eq_zero_iff.mp (Nat.succ.inj (of_decide_eq_true allowed))
      refine (exec_teachAbort_read _ taken).trans ?_
      rw [readSide_sideByte]
      exact congrArg Host.Outcome.next (State.reachEngine_taken free ..)
end

section
/-! SUPPORT. The teach (R82 to R84): what the columns of a line add to it, and the gains its last line sets. -/

namespace Sys2Proof.Machine

/-! ### Lists indexed by column -/

/-- The indexes under which a list in canonical form reads as a value that `p` holds of. -/
theorem length_filter_sparse {α : Type} [DecidableEq α] {d : α} {m : List (Nat × α)} (wf : sparseWf d m = true)
    {bound : Nat} (below : ∀ x ∈ m, x.1 < bound) {p : α → Bool} (unlisted : p d = false) :
    (m.filter fun x => p x.2).length = ((List.range bound).filter fun k => p (sparseGet d m k)).length := by
  have listed_nodup : ((m.filter fun x => p x.2).map Prod.fst).Nodup :=
    List.Pairwise.map _ (fun _ _ => Nat.ne_of_lt) ((sparseWfFrom_pairwise d wf).filter _)
  have same : ((m.filter fun x => p x.2).map Prod.fst).Perm
      ((List.range bound).filter fun k => p (sparseGet d m k)) := by
    refine (List.perm_ext_iff_of_nodup listed_nodup (List.nodup_range.filter _)).mpr fun k => ?_
    simp only [List.mem_map, List.mem_filter, List.mem_range]
    constructor
    · rintro ⟨x, ⟨mem, holds⟩, rfl⟩
      exact ⟨below x mem, (sparseGet_of_mem d wf mem).symm ▸ holds⟩
    · rintro ⟨-, holds⟩
      rcases sparseGet_mem d m k with same | mem
      · rw [same, unlisted] at holds
        nomatch holds
      · exact ⟨_, ⟨mem, holds⟩, rfl⟩
  rw [← same.length_eq, List.length_map]

/-! ### The columns of a line (R82) -/

/-- R82: what a teach has of a column behind a line with these columns. -/
def Engine.teachTotal (e : Engine) (cols : List (Nat × Byte)) (columns : List (Nat × TeachColumn)) (column : Nat) :
    TeachColumn :=
  let old := sparseGet TeachColumn.zero columns column
  match cols.find? fun c => c.1 = column with
  | some c => { sum := old.sum + (c.2.toNat - (e.calEntry column).dark), observed := old.observed + 1 }
  | none => old

theorem observeColumn_wf (e : Engine) {columns : List (Nat × TeachColumn)}
    (wf : sparseWf TeachColumn.zero columns = true) (c : Nat × Byte) :
    sparseWf TeachColumn.zero (observeColumn e columns c) = true := sparseWf_sparseSet _ _ _ _ wf

theorem foldl_observeColumn_wf (e : Engine) (cols : List (Nat × Byte)) {columns : List (Nat × TeachColumn)}
    (wf : sparseWf TeachColumn.zero columns = true) :
    sparseWf TeachColumn.zero (cols.foldl (observeColumn e) columns) = true := by
  induction cols generalizing columns with
  | nil => exact wf
  | cons c rest ih => exact ih (observeColumn_wf e wf c)

theorem foldl_observeColumn_below (e : Engine) {bound : Nat} {cols : List (Nat × Byte)}
    (carried : ∀ c ∈ cols, c.1 < bound) {columns : List (Nat × TeachColumn)} (below : ∀ x ∈ columns, x.1 < bound) :
    ∀ x ∈ cols.foldl (observeColumn e) columns, x.1 < bound := by
  induction cols generalizing columns with
  | nil => exact below
  | cons c rest ih =>
    refine ih (fun c' mem => carried c' (List.mem_cons_of_mem _ mem)) fun x mem => ?_
    rcases mem_sparseSet _ _ _ _ _ mem with rfl | listed
    · exact carried c List.mem_cons_self
    · exact below x listed

theorem sparseGet_observeColumn (e : Engine) {columns : List (Nat × TeachColumn)}
    (wf : sparseWf TeachColumn.zero columns = true) (c : Nat × Byte) (column : Nat) :
    sparseGet TeachColumn.zero (observeColumn e columns c) column = e.teachTotal [c] columns column := by
  rw [observeColumn, sparseGet_sparseSet _ _ 0 _ _ _ wf, Engine.teachTotal, List.find?_singleton]
  by_cases here : column = c.1
  · simp [here]
  · simp [here, Ne.symm here]

theorem sparseGet_foldl_observeColumn (e : Engine) {cols : List (Nat × Byte)}
    (rising : cols.Pairwise fun x y => x.1 < y.1) {columns : List (Nat × TeachColumn)}
    (wf : sparseWf TeachColumn.zero columns = true) (column : Nat) :
    sparseGet TeachColumn.zero (cols.foldl (observeColumn e) columns) column = e.teachTotal cols columns column := by
  induction cols generalizing columns with
  | nil => rfl
  | cons c rest ih =>
    obtain ⟨above, later⟩ := List.pairwise_cons.mp rising
    rw [List.foldl_cons, ih later (observeColumn_wf e wf c)]
    by_cases here : c.1 = column
    · have once : (rest.find? fun c => c.1 = column) = none := by
        refine List.find?_eq_none.mpr fun x mem same => ?_
        have higher := above x mem
        have equal := of_decide_eq_true same
        omega
      simp only [Engine.teachTotal, once, List.find?_cons, sparseGet_observeColumn e wf c column, here, decide_true]
    · simp only [Engine.teachTotal, List.find?_cons, sparseGet_observeColumn e wf c column, here, decide_false,
        List.find?_nil]

/-! ### The gains (R83) -/

theorem Engine.foldl_teachGain_eq (target : Nat) (l : List (Nat × TeachColumn)) (e : Engine) :
    l.foldl (Engine.teachGain target) e = { e with cal := (l.foldl (Engine.teachGain target) e).cal } := by
  induction l generalizing e with
  | nil => rfl
  | cons c rest ih => exact (ih _).trans rfl

theorem Engine.teachGain_wf {e : Engine} (wf : sparseWf CalEntry.unity e.cal = true) (target : Nat)
    (c : Nat × TeachColumn) : sparseWf CalEntry.unity (e.teachGain target c).cal = true := Engine.setCalEntry_wf wf ..

theorem Engine.calEntry_teachGain {e : Engine} (wf : sparseWf CalEntry.unity e.cal = true) (target : Nat)
    (c : Nat × TeachColumn) (column : Nat) :
    (e.teachGain target c).calEntry column
      = if column = c.1 then { (e.calEntry c.1) with gain := taughtGain target c.2 } else e.calEntry column :=
  Engine.calEntry_setCalEntry wf ..

/-- R83: a column that is not taught keeps its entry. -/
theorem Engine.calEntry_foldl_teachGain_unlisted (target : Nat) {column : Nat} {l : List (Nat × TeachColumn)}
    (out : ∀ x ∈ l, x.1 ≠ column) {e : Engine} (wf : sparseWf CalEntry.unity e.cal = true) :
    (l.foldl (Engine.teachGain target) e).calEntry column = e.calEntry column := by
  induction l generalizing e with
  | nil => rfl
  | cons c rest ih =>
    rw [List.foldl_cons, ih (fun x mem => out x (List.mem_cons_of_mem _ mem)) (Engine.teachGain_wf wf target c),
      Engine.calEntry_teachGain wf, if_neg (out c List.mem_cons_self).symm]

/-- R83: a taught column keeps its dark value and gets the gain of its average. -/
theorem Engine.calEntry_foldl_teachGain_listed (target : Nat) {l : List (Nat × TeachColumn)}
    (rising : l.Pairwise fun x y => x.1 < y.1) {x : Nat × TeachColumn} (mem : x ∈ l) {e : Engine}
    (wf : sparseWf CalEntry.unity e.cal = true) :
    (l.foldl (Engine.teachGain target) e).calEntry x.1
      = { dark := (e.calEntry x.1).dark, gain := taughtGain target x.2 } := by
  induction l generalizing e with
  | nil => nomatch mem
  | cons c rest ih =>
    obtain ⟨above, later⟩ := List.pairwise_cons.mp rising
    have wf' := Engine.teachGain_wf wf target c
    have written := Engine.calEntry_teachGain wf target c x.1
    rw [List.foldl_cons]
    rcases List.mem_cons.mp mem with rfl | behind
    · rw [Engine.calEntry_foldl_teachGain_unlisted target (fun y mem => (above y mem).ne') wf', written, if_pos rfl]
    · rw [ih later behind wf', written, if_neg (above x behind).ne']

/-! ### The end of a teach (R83, R84) -/

/-- R82, R83: a line of a teach is added, and the last one ends it. -/
theorem Engine.stageTeach_teaching {e : Engine} {k : Teach} (teaching : e.teach = some k) (side : Side)
    (position : Position) (cols : List (Nat × Byte)) :
    e.stageTeach side position cols
      = if k.taken + 1 = k.n then e.finishTeach side position (e.observeLine k cols)
        else { e with teach := some (e.observeLine k cols) } := by
  simp only [Engine.stageTeach, teaching]
  rfl

theorem Engine.finishTeach_shape (e : Engine) (side : Side) (position : Position) (t : Teach) :
    e.finishTeach side position t
      = { e with
          teach := none, cal := (e.finishTeach side position t).cal
          recordList :=
            e.recordList
              ++ [plainOffer (.engine side)
                  { side := some side, lane := none, position := position,
                    content := .teachDone t.n t.target t.taughtColumns.length (16384 - t.taughtColumns.length) } none] } := by
  rw [Engine.finishTeach_eq, Engine.foldl_teachGain_eq]
  rfl

/-- R83: the calibration entries behind a teach in which the columns read so. -/
theorem Engine.calEntry_finishTeach {e : Engine} (wf : sparseWf CalEntry.unity e.cal = true) (side : Side)
    (position : Position) {t : Teach} (columns_wf : sparseWf TeachColumn.zero t.columns = true)
    (unobserved : isTaught t.n TeachColumn.zero = false) (column : Nat) :
    let c := sparseGet TeachColumn.zero t.columns column
    (e.finishTeach side position t).calEntry column
      = if isTaught t.n c then { dark := (e.calEntry column).dark, gain := taughtGain t.target c }
        else e.calEntry column := by
  intro c
  have reads : (e.finishTeach side position t).calEntry column
      = (t.taughtColumns.foldl (Engine.teachGain t.target) e).calEntry column := rfl
  rw [reads]
  split
  case isTrue taught =>
    have listed : (column, c) ∈ t.columns :=
      (sparseGet_mem TeachColumn.zero t.columns column).resolve_left fun same => by
        rw [show c = _ from same, unobserved] at taught
        nomatch taught
    have rising := (sparseWfFrom_pairwise _ columns_wf).filter fun c => isTaught t.n c.2
    exact Engine.calEntry_foldl_teachGain_listed t.target rising (List.mem_filter.mpr ⟨listed, taught⟩) wf
  case isFalse untaught =>
    refine Engine.calEntry_foldl_teachGain_unlisted t.target (fun x mem same => untaught ?_) wf
    obtain ⟨listed, taught⟩ := List.mem_filter.mp mem
    have value : c = x.2 := (congrArg _ same.symm).trans (sparseGet_of_mem TeachColumn.zero columns_wf listed)
    exact value ▸ taught

end Sys2Proof.Machine

open Sys2Proof Sys2Proof.Machine

/-- Settles O38: the columns of the teach read as the totals, and the gains are those of the totals taught. -/
theorem teachAddsLinesAndSetsGains : Obligations.TeachAddsLinesAndSetsGains := by
  intro e side position cols k teaching rising wf carried below total after
  have columns_wf := foldl_observeColumn_wf e cols wf
  have columns_get : ∀ column, sparseGet TeachColumn.zero (e.observeLine k cols).columns column = total column :=
    sparseGet_foldl_observeColumn e rising wf
  have stage := Engine.stageTeach_teaching teaching side position cols
  refine ⟨fun more => ⟨_, stage.trans (if_neg more), columns_wf, columns_get⟩, fun last two inRange => ?_⟩
  intro taught
  have unobserved : isTaught k.n TeachColumn.zero = false :=
    decide_eq_false (Nat.not_le.mpr (Nat.div_pos two (by decide)))
  have count : (e.observeLine k cols).taughtColumns.length = taught.length := by
    refine (length_filter_sparse columns_wf (foldl_observeColumn_below e carried below) unobserved).trans ?_
    exact congrArg (fun p => ((List.range 16384).filter p).length)
      (funext fun column => congrArg (isTaught k.n) (columns_get column))
  have ends : after = e.finishTeach side position (e.observeLine k cols) := stage.trans (if_pos last)
  refine ⟨after.cal, ?_, fun column => ?_⟩
  · rw [ends, ← count]
    exact Engine.finishTeach_shape ..
  · have entry := Engine.calEntry_finishTeach inRange.1 side position (t := e.observeLine k cols) columns_wf unobserved
      column
    rw [columns_get column, ← ends] at entry
    refine entry.trans (if_congr decide_eq_true_iff rfl rfl)
end

section
/-! SUPPORT. Candidates and runs (R88 to R90): which columns are candidates, the runs of a line as its maximal sequences of
adjacent candidates, and the statement about them, settled. -/

namespace Sys2Proof.Machine

/-! ### Candidates (R88) -/

theorem LaneRecord.coats_iff (r : LaneRecord) (column : Nat) :
    r.coats column = true ↔ r.coatedFirst ≤ column ∧ column ≤ r.coatedLast := by
  simp [LaneRecord.coats]

/-- R58: the coated zones of the enabled lanes share no column. -/
def LaneBank.ZonesDisjoint (bank : LaneBank) : Prop :=
  ∀ i j : LaneId, i ≠ j → bank[i].enabled = true → bank[j].enabled = true →
    ∀ column, bank[i].coatedFirst ≤ column → column ≤ bank[i].coatedLast →
      ¬(bank[j].coatedFirst ≤ column ∧ column ≤ bank[j].coatedLast)

/-- Where the coated zones are disjoint, the lane found for a column is the one whose zone holds it. -/
theorem coatedLane_eq_some_iff {bank : LaneBank} (disjoint : bank.ZonesDisjoint) (column : Nat) (lane : LaneId) :
    coatedLane bank column = some lane ↔
      bank[lane].enabled = true ∧ bank[lane].coatedFirst ≤ column ∧ column ≤ bank[lane].coatedLast := by
  have found_holds : ∀ {i : LaneId}, coatedLane bank column = some i →
      bank[i].enabled = true ∧ bank[i].coatedFirst ≤ column ∧ column ≤ bank[i].coatedLast := fun found =>
    ⟨(mem_enabledLanes ..).mp (List.mem_of_find?_eq_some found),
      (LaneRecord.coats_iff ..).mp (List.find?_some (p := fun l : LaneId => bank[l].coats column) found)⟩
  refine ⟨found_holds, fun ⟨enabled, zone⟩ => ?_⟩
  obtain ⟨i, found⟩ : ∃ i, coatedLane bank column = some i :=
    Option.isSome_iff_exists.mp
      (List.find?_isSome.mpr ⟨lane, (mem_enabledLanes ..).mpr enabled, (LaneRecord.coats_iff ..).mpr zone⟩)
  obtain ⟨enabled', first, last⟩ := found_holds found
  by_cases same : i = lane
  · exact same ▸ found
  · exact absurd zone (disjoint i lane same enabled' enabled column first last)

theorem candidate_eq_some_iff {bank : LaneBank} {recipes : Recipes} {levels : Vector LaneLevel 16} {col : Nat × Nat}
    {x : CandidatePixel} :
    candidate bank recipes levels col = some x ↔
      ∃ lane m, coatedLane bank col.1 = some lane ∧ levels[lane] = .mean m
        ∧ m + recipes[bank[lane].recipe].pinThreshold ≤ col.2
        ∧ { column := col.1, lane := lane, contrast := col.2 - m } = x := by
  unfold candidate
  cases coatedLane bank col.1 with
  | none => simp
  | some lane =>
    simp only [Option.some.injEq, exists_and_left, exists_eq_left', laneRecipe]
    cases levels[lane] with
    | none => simp
    | blind => simp
    | mean m =>
      simp only [LaneLevel.mean.injEq, exists_eq_left']
      exact Option.ite_none_right_eq_some.trans (and_congr_right' Option.some_inj)

/-- R88: a column of the line is a candidate of a lane with this contrast. -/
def IsCandidate (bank : LaneBank) (recipes : Recipes) (levels : Vector LaneLevel 16) (cols : List (Nat × Nat))
    (lane : LaneId) (column contrast : Nat) : Prop :=
  ∃ value m, (column, value) ∈ cols ∧ bank[lane].enabled = true ∧ bank[lane].coatedFirst ≤ column
    ∧ column ≤ bank[lane].coatedLast ∧ levels[lane] = .mean m
    ∧ m + recipes[bank[lane].recipe].pinThreshold ≤ value ∧ contrast = value - m

theorem mem_candidates_iff {bank : LaneBank} (disjoint : bank.ZonesDisjoint) (recipes : Recipes)
    (levels : Vector LaneLevel 16) (cols : List (Nat × Nat)) (lane : LaneId) (column contrast : Nat) :
    { column := column, lane := lane, contrast := contrast } ∈ cols.filterMap (candidate bank recipes levels)
      ↔ IsCandidate bank recipes levels cols lane column contrast := by
  simp only [List.mem_filterMap, candidate_eq_some_iff, coatedLane_eq_some_iff disjoint]
  constructor
  · rintro ⟨col, mem, lane', m, ⟨enabled, first, last⟩, level, bright, same⟩
    cases same
    exact ⟨col.2, m, mem, enabled, first, last, level, bright, rfl⟩
  · rintro ⟨value, m, mem, enabled, first, last, level, bright, rfl⟩
    exact ⟨(column, value), mem, lane, m, ⟨enabled, first, last⟩, level, bright, rfl⟩

theorem candidate_column {bank : LaneBank} {recipes : Recipes} {levels : Vector LaneLevel 16} {col : Nat × Nat}
    {x : CandidatePixel} (found : candidate bank recipes levels col = some x) : x.column = col.1 := by
  obtain ⟨lane, m, -, -, -, rfl⟩ := candidate_eq_some_iff.mp found
  rfl

/-- The candidates stand in the order of the columns. -/
theorem candidates_rising (bank : LaneBank) (recipes : Recipes) (levels : Vector LaneLevel 16) {cols : List (Nat × Nat)}
    (rising : cols.Pairwise fun x y => x.1 < y.1) :
    (cols.filterMap (candidate bank recipes levels)).Pairwise fun x y => x.column < y.column :=
  rising.filterMap _ fun c d less x found y found' => by rwa [candidate_column found, candidate_column found']

/-! ### Runs (R89) -/

/-- The column lies in the run, which is of this lane. -/
def Run.covers (r : Run) (lane : LaneId) (column : Nat) : Prop := r.lane = lane ∧ r.first ≤ column ∧ column ≤ r.last

/-- R89: the newest runs stand in front, each behind the older ones and, in one lane, with a column between. -/
def Run.Follows (r' r : Run) : Prop := r.last < r'.first ∧ (r.lane = r'.lane → r.last + 1 < r'.first)

/-- R89: a run of candidates whose peak is the greatest of their contrasts. -/
def Run.IsPeakOf (r : Run) (seen : List CandidatePixel) : Prop :=
  r.first ≤ r.last ∧ (∃ column, r.first ≤ column ∧ column ≤ r.last ∧ ⟨column, r.lane, r.peak⟩ ∈ seen)
    ∧ ∀ column contrast, r.first ≤ column → column ≤ r.last → ⟨column, r.lane, contrast⟩ ∈ seen → contrast ≤ r.peak

/-- R89: the runs, newest first, are the maximal sequences of adjacent candidates among those seen. -/
structure RunsOf (seen : List CandidatePixel) (runs : List Run) : Prop where
  covers : ∀ lane column, (∃ r ∈ runs, r.covers lane column) ↔ ∃ contrast, ⟨column, lane, contrast⟩ ∈ seen
  apart : runs.Pairwise Run.Follows
  peaks : ∀ r ∈ runs, r.IsPeakOf seen

theorem RunsOf.nil : RunsOf [] [] where
  covers := by simp
  apart := .nil
  peaks := by simp

section
variable {seen : List CandidatePixel} {runs : List Run} {x : CandidatePixel}

/-- Every run ends before a candidate that stands behind all those seen. -/
theorem RunsOf.last_lt (of : RunsOf seen runs) (behind : ∀ y ∈ seen, y.column < x.column) {r : Run} (mem : r ∈ runs) :
    r.last < x.column := by
  obtain ⟨contrast, listed⟩ := (of.covers r.lane r.last).mp ⟨r, mem, rfl, (of.peaks r mem).1, le_rfl⟩
  exact behind _ listed

/-- A candidate behind a run changes nothing of its peak. -/
theorem Run.IsPeakOf.append {r : Run} (peak : r.IsPeakOf seen) (behind : r.last < x.column) :
    r.IsPeakOf (seen ++ [x]) := by
  obtain ⟨ordered, ⟨column, first, last, mem⟩, greatest⟩ := peak
  refine ⟨ordered, ⟨column, first, last, List.mem_append_left _ mem⟩, fun column contrast first last mem => ?_⟩
  rcases List.mem_append.mp mem with mem | mem
  · exact greatest column contrast first last mem
  · obtain rfl := List.mem_singleton.mp mem
    exact absurd last (Nat.not_le.mpr behind)

theorem exists_mem_append_singleton (lane : LaneId) (column : Nat) :
    (∃ contrast, (⟨column, lane, contrast⟩ : CandidatePixel) ∈ seen ++ [x]) ↔
      (∃ contrast, (⟨column, lane, contrast⟩ : CandidatePixel) ∈ seen) ∨ (x.lane = lane ∧ x.column = column) := by
  obtain ⟨c, l, k⟩ := x
  simp only [List.mem_append, List.mem_singleton, CandidatePixel.mk.injEq, exists_or]
  simp [eq_comm, and_comm]

/-- The run that a candidate begins. -/
def CandidatePixel.asRun (x : CandidatePixel) : Run :=
  { lane := x.lane, first := x.column, last := x.column, peak := x.contrast }

/-- R89: a candidate that no run reaches begins one. -/
theorem RunsOf.begin (of : RunsOf seen runs) (behind : ∀ y ∈ seen, y.column < x.column)
    (apart : ∀ r ∈ runs, r.lane = x.lane → r.last + 1 < x.column) : RunsOf (seen ++ [x]) (x.asRun :: runs) where
  covers lane column := by
    rw [exists_mem_append_singleton, ← of.covers, List.exists_mem_cons_iff, or_comm]
    exact or_congr_right (and_congr_right' le_antisymm_iff.symm)
  apart := List.pairwise_cons.mpr ⟨fun r mem => ⟨of.last_lt behind mem, apart r mem⟩, of.apart⟩
  peaks := by
    refine List.forall_mem_cons.mpr ⟨⟨le_rfl, ⟨x.column, le_rfl, le_rfl, by simp [CandidatePixel.asRun]⟩, ?_⟩,
      fun r mem => (of.peaks r mem).append (of.last_lt behind mem)⟩
    intro column contrast first _ mem
    rcases List.mem_append.mp mem with mem | mem
    · exact absurd (behind _ mem) (Nat.not_lt.mpr first)
    · exact (congrArg CandidatePixel.contrast (List.mem_singleton.mp mem)).le

/-- The run with one more candidate behind it. -/
def Run.extended (r : Run) (x : CandidatePixel) : Run := { r with last := x.column, peak := max r.peak x.contrast }

/-- R89: the next column of the newest run extends it. -/
theorem RunsOf.extend {r : Run} (of : RunsOf seen (r :: runs)) (behind : ∀ y ∈ seen, y.column < x.column)
    (lane : r.lane = x.lane) (next : x.column = r.last + 1) : RunsOf (seen ++ [x]) (r.extended x :: runs) where
  covers lane' column := by
    have ordered := (of.peaks r List.mem_cons_self).1
    rw [exists_mem_append_singleton, ← of.covers, List.exists_mem_cons_iff, List.exists_mem_cons_iff, or_right_comm]
    refine or_congr_left ?_
    simp only [Run.covers, Run.extended, lane, ← and_or_left]
    refine and_congr_right' ?_
    omega
  apart :=
    have ⟨follows, older⟩ := List.pairwise_cons.mp of.apart
    List.pairwise_cons.mpr ⟨follows, older⟩
  peaks := by
    refine List.forall_mem_cons.mpr ⟨?_, fun q mem =>
      (of.peaks q (List.mem_cons_of_mem _ mem)).append (of.last_lt behind (List.mem_cons_of_mem _ mem))⟩
    obtain ⟨ordered, ⟨column, first, last, mem⟩, greatest⟩ := of.peaks r List.mem_cons_self
    refine ⟨by simp only [Run.extended]; omega, ?_, fun column contrast first last mem => ?_⟩
    · rcases le_total x.contrast r.peak with lower | higher
      · refine ⟨column, first, last.trans (by simp only [Run.extended]; omega), List.mem_append_left _ ?_⟩
        simpa only [Run.extended, max_eq_left lower] using mem
      · refine ⟨x.column, by simp only [Run.extended]; omega, le_rfl, List.mem_append_right _ ?_⟩
        simp only [Run.extended, max_eq_right higher, lane, List.mem_singleton]
    · rcases List.mem_append.mp mem with mem | mem
      · have := behind _ mem
        exact (greatest column contrast first (by simp only at this; omega) mem).trans (le_max_left ..)
      · exact (congrArg CandidatePixel.contrast (List.mem_singleton.mp mem)).le.trans (le_max_right ..)

/-- R89: the next candidate extends the newest run or begins one. -/
theorem RunsOf.step (of : RunsOf seen runs) (behind : ∀ y ∈ seen, y.column < x.column) :
    RunsOf (seen ++ [x]) (extendRuns runs x) := by
  cases runs with
  | nil => exact of.begin behind (by simp)
  | cons r rest =>
    rw [extendRuns]
    split
    case isTrue adjacent => exact of.extend behind adjacent.1 adjacent.2
    case isFalse separate =>
      refine of.begin behind (List.forall_mem_cons.mpr ⟨fun lane => ?_, fun q mem _ => ?_⟩)
      · have := of.last_lt behind List.mem_cons_self
        have : ¬x.column = r.last + 1 := fun next => separate ⟨lane, next⟩
        omega
      · have follows := ((List.pairwise_cons.mp of.apart).1 q mem).1
        have ordered := (of.peaks r List.mem_cons_self).1
        have := of.last_lt behind List.mem_cons_self
        omega

end

theorem RunsOf.foldl {seen : List CandidatePixel} {runs : List Run} (of : RunsOf seen runs) (rest : List CandidatePixel)
    (rising : (seen ++ rest).Pairwise fun x y => x.column < y.column) :
    RunsOf (seen ++ rest) (rest.foldl extendRuns runs) := by
  induction rest generalizing seen runs with
  | nil => simpa using of
  | cons x rest ih =>
    have behind : ∀ y ∈ seen, y.column < x.column := fun y mem =>
      (List.pairwise_append.mp rising).2.2 y mem x List.mem_cons_self
    rw [List.append_cons] at rising ⊢
    exact ih (of.step behind) rising

/-- R88, R89: the runs found are the maximal sequences of adjacent candidates. -/
theorem runsOf_findRuns (bank : LaneBank) (recipes : Recipes) (levels : Vector LaneLevel 16) {cols : List (Nat × Nat)}
    (rising : cols.Pairwise fun x y => x.1 < y.1) :
    RunsOf (cols.filterMap (candidate bank recipes levels)) (findRuns bank recipes levels cols).reverse := by
  rw [findRuns, List.reverse_reverse]
  exact RunsOf.nil.foldl _ (candidates_rising bank recipes levels rising)

/-! ### The runs kept (R90) -/

/-- The record of the runs dropped, as the engine offers it. -/
theorem offersOf_runsOverflow (side : Side) (position : Position) (dropped : List Run) :
    offersOf (.engine side) (runsOverflow side position dropped)
      = match dropped with
        | [] => []
        | r :: _ =>
          [plainOffer (.engine side)
            { side := some side, lane := none, position := position,
              content := .overflowRuns (min 65535 dropped.length) r.first } none] := by
  cases dropped <;> rfl

/-- R90: stage 5 takes the first 256 runs to the blob update, with the record of those dropped in front. -/
theorem Engine.stagePinholes_eq {e : Engine} (side : Side) (position : Position) {bank : LaneBank} {recipes : Recipes}
    {cols : List (Nat × Nat)} {runs : List Run} (found : findRuns bank recipes e.laneLevels cols = runs) :
    e.stagePinholes side position bank recipes cols
      = Engine.stageBlobs
          { e with
            runList := runs.take 256, runsDropped := min 65535 (runs.length - 256)
            recordList := e.recordList ++ offersOf (.engine side) (runsOverflow side position (runs.drop 256)) }
          side position bank recipes cols (runs.drop 256) := by
  rw [← List.length_drop, ← found]
  rfl

end Sys2Proof.Machine

open Sys2Proof Sys2Proof.Machine

/-- Settles O34: the candidates are those of the line, and each extends the newest run or begins one. -/
theorem runsAreMaximalCandidateSequences : Obligations.RunsAreMaximalCandidateSequences := by
  intro bank recipes cols e side position rising disjoint isCandidate
  obtain ⟨covers, apart, peaks⟩ := runsOf_findRuns bank recipes e.laneLevels rising
  have listed := mem_candidates_iff disjoint recipes e.laneLevels cols
  refine ⟨findRuns bank recipes e.laneLevels cols, fun lane column => ?_, List.pairwise_reverse.mp apart,
    fun r mem => ?_, ?_⟩
  · have covered := covers lane column
    simp only [List.mem_reverse, listed] at covered
    exact covered
  · have peak := peaks r (List.mem_reverse.mpr mem)
    simp only [Run.IsPeakOf, listed] at peak
    exact peak
  · intro count found
    have stage := Engine.stagePinholes_eq side position (Eq.refl (findRuns bank recipes e.laneLevels cols))
    rw [offersOf_runsOverflow, List.length_drop] at stage
    exact stage
end

section
/-! SUPPORT. The blob update (R91 to R95): which blobs a run touches, and what taking the runs of a line makes of the blob
table when they touch none of its blobs, one of them, or two that they merge. -/

namespace Sys2Proof.Machine

/-! ### Touching (R92) -/

/-- R92: the run lies in the blob's lane and meets or abuts its previous span. -/
def Run.Touches (r : Run) (x : Blob) : Prop := x.lane = r.lane ∧ r.first ≤ x.prevHi + 1 ∧ x.prevLo ≤ r.last + 1

/-- A blob as it enters the blob update of a line. -/
def Blob.atStart (x : Blob) : WorkBlob := { blob := x, spans := [(x.prevLo, x.prevHi)], runs := [] }

theorem startUpdate_eq (blobs : List Blob) : startUpdate blobs = blobs.map Blob.atStart := rfl

theorem Blob.touchedBy_atStart (x : Blob) (r : Run) : x.atStart.touchedBy r = true ↔ r.Touches x :=
  Bool.and_eq_true_iff.trans (and_congr decide_eq_true_iff (by simp [Blob.atStart]))

theorem Blob.touchedBy_atStart_eq_false {x : Blob} {r : Run} (apart : ¬r.Touches x) : x.atStart.touchedBy r = false :=
  Bool.eq_false_iff.mpr (mt (x.touchedBy_atStart r).mp apart)

/-- R92: no run of the line touches a blob opened in it. -/
theorem touchedBy_openBlob (position : Position) (q r : Run) : (openBlob position q).touchedBy r = false := by
  simp [WorkBlob.touchedBy, openBlob]

/-- The blob with these runs assigned to it. -/
def WorkBlob.withRuns (w : WorkBlob) (runs : List Run) : WorkBlob := { w with runs := runs }

theorem WorkBlob.touchedBy_withRuns (w : WorkBlob) (runs : List Run) (r : Run) :
    (w.withRuns runs).touchedBy r = w.touchedBy r := rfl

/-- R92, R93: a merged blob is touched by its own previous span and by that of the blob merged into it. -/
theorem WorkBlob.touchedBy_absorb {w v : WorkBlob} (lane : w.blob.lane = v.blob.lane) (r : Run) :
    (w.absorb v).touchedBy r = (w.touchedBy r || v.touchedBy r) := by
  simp [WorkBlob.touchedBy, WorkBlob.absorb, lane, Bool.and_or_distrib_left]

/-! ### Taking one run (R93, R94) -/

section
variable (position : Position) {older between younger table : List WorkBlob} {w v : WorkBlob} {r : Run} (lost : List Run)

theorem assignRun_append (apart : ∀ z ∈ older, z.touchedBy r = false) :
    assignRun r (older ++ table) = older ++ assignRun r table := by
  induction older with
  | nil => rfl
  | cons z rest ih =>
    have ⟨first, others⟩ := List.forall_mem_cons.mp apart
    simp only [List.cons_append, assignRun, first, Bool.false_eq_true, if_false, ih others]

theorem takeRun_touched (mem : w ∈ table) (touched : w.touchedBy r = true) :
    takeRun position (table, lost) r = (assignRun r table, lost) :=
  if_pos (List.any_eq_true.mpr ⟨w, mem, touched⟩)

theorem filter_touched_eq_nil (apart : ∀ z ∈ table, z.touchedBy r = false) :
    table.filter (·.touchedBy r) = [] :=
  List.filter_eq_nil_iff.mpr fun z mem => by simp [apart z mem]

theorem filter_untouched_eq_self (apart : ∀ z ∈ table, z.touchedBy r = false) :
    (table.filter fun z => !z.touchedBy r) = table :=
  List.filter_eq_self.mpr fun z mem => by simp [apart z mem]

/-- R93: a run that touches one blob is assigned to it. -/
theorem takeRun_one (touched : w.touchedBy r = true) (apart : ∀ z ∈ older ++ younger, z.touchedBy r = false) :
    takeRun position (older ++ w :: younger, lost) r
      = (older ++ w.withRuns (w.runs ++ [r]) :: younger, lost) := by
  have ⟨before, behind⟩ := List.forall_mem_append.mp apart
  rw [takeRun_touched position lost (List.mem_append_right _ List.mem_cons_self) touched, assignRun_append before]
  simp only [assignRun, touched, if_true, filter_touched_eq_nil behind, filter_untouched_eq_self behind]
  rfl

/-- R94: a run that touches two blobs is assigned to the older, into which the younger is merged. -/
theorem takeRun_two (touched : w.touchedBy r = true) (touched' : v.touchedBy r = true)
    (apart : ∀ z ∈ older ++ between ++ younger, z.touchedBy r = false) :
    takeRun position (older ++ w :: (between ++ v :: younger), lost) r
      = (older ++ (w.absorb v).withRuns (w.runs ++ v.runs ++ [r]) :: (between ++ younger), lost) := by
  have ⟨before, behind⟩ := List.forall_mem_append.mp apart
  have ⟨before, amid⟩ := List.forall_mem_append.mp before
  rw [takeRun_touched position lost (List.mem_append_right _ List.mem_cons_self) touched, assignRun_append before]
  simp only [assignRun, touched, if_true, List.filter_append, List.filter_cons, touched', Bool.not_true,
    Bool.false_eq_true, if_false, filter_touched_eq_nil behind, filter_touched_eq_nil amid,
    filter_untouched_eq_self behind, filter_untouched_eq_self amid]
  rfl

/-! ### Taking the runs of a line (R93 to R95) -/

/-- R93, R95: runs that touch no blob open blobs behind the others while there is room, and the later ones are dropped. -/
theorem foldl_takeRun_none (runs : List Run) (apart : ∀ r ∈ runs, ∀ z ∈ table, z.touchedBy r = false) :
    runs.foldl (takeRun position) (table, lost)
      = (table ++ (runs.take (128 - table.length)).map (openBlob position),
          (runs.drop (128 - table.length)).reverse ++ lost) := by
  induction runs generalizing table lost with
  | nil => simp
  | cons r rest ih =>
    have ⟨first, others⟩ := List.forall_mem_cons.mp apart
    have untouched : (table.any (·.touchedBy r)) = false :=
      List.any_eq_false.mpr fun z mem => by simp [first z mem]
    rw [List.foldl_cons]
    by_cases room : table.length < 128
    · have opens : takeRun position (table, lost) r = (table ++ [openBlob position r], lost) := by
        simp [takeRun, untouched, Config.maxBlobs, room]
      have left : 128 - table.length = 128 - (table ++ [openBlob position r]).length + 1 := by
        rw [List.length_append, List.length_singleton]
        omega
      rw [opens, ih, left]
      · simp
      · intro q mem z listed
        rcases List.mem_append.mp listed with listed | listed
        · exact others q mem z listed
        · rw [List.mem_singleton.mp listed, touchedBy_openBlob]
    · have drops : takeRun position (table, lost) r = (table, r :: lost) := by
        simp [takeRun, untouched, Config.maxBlobs, room]
      have full : 128 - table.length = 0 := by omega
      rw [drops, ih _ others, full]
      simp

/-- R93: runs that touch one blob are assigned to it, in their order. -/
theorem foldl_takeRun_one (runs : List Run)
    (only : ∀ r ∈ runs, w.touchedBy r = true ∧ ∀ z ∈ older ++ younger, z.touchedBy r = false) :
    runs.foldl (takeRun position) (older ++ w :: younger, lost)
      = (older ++ w.withRuns (w.runs ++ runs) :: younger, lost) := by
  induction runs generalizing w with
  | nil => simp [WorkBlob.withRuns]
  | cons r rest ih =>
    obtain ⟨⟨touched, apart⟩, others⟩ := List.forall_mem_cons.mp only
    rw [List.foldl_cons, takeRun_one position lost touched apart, ih (w := w.withRuns (w.runs ++ [r])) others]
    simp [WorkBlob.withRuns]

/-- R93, R94: of runs that touch two blobs, one of them both, the first that touches both merges them, and the survivor holds
the runs of both blobs and all those taken. -/
theorem foldl_takeRun_two (runs : List Run) (lane : w.blob.lane = v.blob.lane)
    (both : ∃ r ∈ runs, w.touchedBy r = true ∧ v.touchedBy r = true)
    (only : ∀ r ∈ runs, (w.touchedBy r = true ∨ v.touchedBy r = true)
      ∧ ∀ z ∈ older ++ between ++ younger, z.touchedBy r = false) :
    ∃ received, received.Perm (w.runs ++ v.runs ++ runs)
      ∧ runs.foldl (takeRun position) (older ++ w :: (between ++ v :: younger), lost)
        = (older ++ (w.absorb v).withRuns received :: (between ++ younger), lost) := by
  induction runs generalizing w v with
  | nil => simp at both
  | cons r rest ih =>
    obtain ⟨⟨either, apart⟩, others⟩ := List.forall_mem_cons.mp only
    obtain ⟨⟨before, amid⟩, behind⟩ : ((∀ z ∈ older, z.touchedBy r = false) ∧ ∀ z ∈ between, z.touchedBy r = false)
        ∧ ∀ z ∈ younger, z.touchedBy r = false := by simpa only [List.forall_mem_append] using apart
    have later (one : ¬(w.touchedBy r = true ∧ v.touchedBy r = true)) :
        ∃ q ∈ rest, w.touchedBy q = true ∧ v.touchedBy q = true :=
      ((List.exists_mem_cons_iff ..).mp both).resolve_left one
    rw [List.foldl_cons]
    cases touched : w.touchedBy r with
    | true =>
      cases touched' : v.touchedBy r with
      | true =>
        refine ⟨w.runs ++ v.runs ++ [r] ++ rest, by simp, ?_⟩
        rw [takeRun_two position lost touched touched' apart]
        refine foldl_takeRun_one position lost rest fun q mem => ⟨?_, ?_⟩
        · rw [WorkBlob.touchedBy_withRuns, WorkBlob.touchedBy_absorb lane, Bool.or_eq_true]
          exact (others q mem).1
        · simpa only [List.append_assoc] using (others q mem).2
      | false =>
        obtain ⟨received, same, folded⟩ :=
          ih (w := w.withRuns (w.runs ++ [r])) lane (later (by simp [touched'])) others
        refine ⟨received, same.trans ?_, ?_⟩
        · simp only [WorkBlob.withRuns, List.append_assoc, List.singleton_append]
          exact .append_left _ List.perm_middle.symm
        · rw [takeRun_one position lost touched, folded]
          · rfl
          · simp only [List.forall_mem_append, List.forall_mem_cons]
            exact ⟨before, amid, touched', behind⟩
    | false =>
      have touched' : v.touchedBy r = true := either.resolve_left (by simp [touched])
      obtain ⟨received, same, folded⟩ :=
        ih (v := v.withRuns (v.runs ++ [r])) lane (later (by simp [touched])) others
      refine ⟨received, same.trans ?_, ?_⟩
      · simp [WorkBlob.withRuns]
      · have taken := takeRun_one position (older := older ++ w :: between) (younger := younger) lost touched' (by
          simp only [List.forall_mem_append, List.forall_mem_cons]
          exact ⟨⟨before, touched, amid⟩, behind⟩)
        simp only [List.append_assoc, List.cons_append] at taken
        rw [taken, folded]
        rfl

end

end Sys2Proof.Machine
end

section
/-! SUPPORT. The walk (R96 to R101, R104): what it leaves of a blob with runs and of one without, the records it makes as the
engine offers them, and the statement about the blob update, settled. -/

namespace Sys2Proof.Machine

/-! ### The update of a blob (R96) -/

/-- The columns `first` to `last` are the hull of the runs. -/
def IsHull (runs : List Run) (first last : Nat) : Prop :=
  (∃ r ∈ runs, r.first = first) ∧ (∀ r ∈ runs, first ≤ r.first) ∧ (∃ r ∈ runs, r.last = last) ∧ ∀ r ∈ runs, r.last ≤ last

/-- R96: the blob that has received these runs, in any order, whose hull is `first` to `last`. -/
def Blob.grown (x : Blob) (position : Position) (runs : List Run) (first last : Nat) : Blob :=
  { x with
    firstColumn := min x.firstColumn first, lastColumn := max x.lastColumn last, prevLo := first, prevHi := last
    area := min 65535 (x.area + (runs.map fun r => r.last - r.first + 1).sum)
    peak := (runs.map (·.peak)).foldl max x.peak
    lines := min 65535 (x.lines + 1), misses := 0, lastPos := position }

/-- A value that is attained, and that none is below, is what taking the lesser leaves. -/
theorem foldl_min_of_least {α β : Type} [LinearOrder β] (f : α → β) {l : List α} {a m : β}
    (attained : a = m ∨ ∃ y ∈ l, f y = m) (low : m ≤ a) (least : ∀ y ∈ l, m ≤ f y) :
    l.foldl (fun n y => min n (f y)) a = m := by
  induction l generalizing a with
  | nil => exact attained.resolve_right (by simp)
  | cons y rest ih =>
    obtain ⟨low', least⟩ := List.forall_mem_cons.mp least
    refine ih (a := min a (f y)) ?_ (le_min low low') least
    rcases attained with here | attained
    · exact .inl (by rw [here, min_eq_left low'])
    · rcases (List.exists_mem_cons_iff ..).mp attained with here | later
      · exact .inl (by rw [here, min_eq_right low])
      · exact .inr later

theorem foldl_min_cons {α β : Type} [LinearOrder β] (f : α → β) {x : α} {rest : List α} {m : β}
    (attained : ∃ y ∈ x :: rest, f y = m) (least : ∀ y ∈ x :: rest, m ≤ f y) :
    rest.foldl (fun n y => min n (f y)) (f x) = m :=
  have ⟨low, least⟩ := List.forall_mem_cons.mp least
  foldl_min_of_least f ((List.exists_mem_cons_iff ..).mp attained) low least

/-- A saturating sum term by term is the saturated sum. -/
theorem foldl_satAdd {α : Type} (limit : Nat) (f : α → Nat) (l : List α) (n : Nat) :
    l.foldl (fun n y => satAdd limit n (f y)) (min limit n) = min limit (n + (l.map f).sum) := by
  induction l generalizing n with
  | nil => rfl
  | cons y rest ih =>
    have step : satAdd limit (min limit n) (f y) = min limit (n + f y) := by
      unfold satAdd
      omega
    rw [List.foldl_cons, step, ih, List.map_cons, List.sum_cons, Nat.add_assoc]

theorem updateBlob_eq_grown (position : Position) (x : Blob) {r : Run} {rest runs : List Run} {first last : Nat}
    (same : (r :: rest).Perm runs) (hull : IsHull runs first last) :
    updateBlob position x r rest = x.grown position runs first last := by
  obtain ⟨least, low, greatest, high⟩ := hull
  simp only [← same.mem_iff] at least low greatest high
  have lo : rest.foldl (fun n y => min n y.first) r.first = first := foldl_min_cons Run.first least low
  have hi : rest.foldl (fun n y => max n y.last) r.last = last :=
    foldl_min_cons (β := Natᵒᵈ) (fun y : Run => OrderDual.toDual y.last) greatest high
  have area : (r :: rest).foldl (fun n y => satAdd Config.max16 n (y.last - y.first + 1)) x.area
      = min 65535 (x.area + (runs.map fun y => y.last - y.first + 1).sum) := by
    rw [← (same.map _).sum_eq, List.map_cons, List.sum_cons, ← Nat.add_assoc]
    exact foldl_satAdd Config.max16 _ rest _
  have peak : (r :: rest).foldl (fun n y => max n y.peak) x.peak = (runs.map (·.peak)).foldl max x.peak := by
    rw [← List.foldl_map (f := fun y : Run => y.peak) (g := max)]
    exact (same.map _).foldl_eq _
  simp only [updateBlob, lo, hi, area, peak]
  rfl

/-! ### The records of a closing (R101, R104) -/

/-- R101, R104: the record of a blob that closes at its size or by gap, with its mark flag. -/
def Blob.pinholeOffers (side : Side) (bank : LaneBank) (recipes : Recipes) (x : Blob) (large mark : Bool) : List Offer :=
  if recipes[bank[x.lane].recipe].minArea ≤ x.area then
    [plainOffer (.engine side)
      { side := some side, lane := some x.lane, position := x.firstPos,
        content :=
          .pinhole x.lastPos x.firstColumn x.lastColumn x.area x.peak x.lines
            { merged := x.merged, large := large, truncated := false, mapChange := false } bank[x.lane].marker }
      (some mark)]
  else []

theorem offersOf_closeBlob (side : Side) (bank : LaneBank) (recipes : Recipes) (x : Blob) (large : Bool) :
    offersOf (.engine side) (closeBlob side bank recipes { PinholeFlags.gap with large := large } x)
      = x.pinholeOffers side bank recipes large
          (if large then recipes[bank[x.lane].recipe].markLarge else recipes[bank[x.lane].recipe].markPinhole) := by
  by_cases counts : recipes[bank[x.lane].recipe].minArea ≤ x.area
  · rw [Blob.pinholeOffers, if_pos counts]
    exact congrArg (offersOf (.engine side)) (if_pos counts)
  · rw [Blob.pinholeOffers, if_neg counts]
    exact congrArg (offersOf (.engine side)) (if_neg counts)

/-! ### The walk of one blob (R97 to R100) -/

/-- R97: when a blob without a run is frozen. -/
theorem frozen_iff (bank : LaneBank) (levels : Vector LaneLevel 16) (cols : List (Nat × Nat)) (droppedRuns : List Run)
    (x : Blob) :
    frozen bank levels cols droppedRuns x = true ↔
      levels[x.lane] = .blind
        ∨ ∃ c, x.prevLo - 1 ≤ c ∧ c ≤ x.prevHi + 1 ∧ bank[x.lane].coatedFirst ≤ c ∧ c ≤ bank[x.lane].coatedLast
          ∧ c < 16384 ∧ ((∀ value, (c, value) ∉ cols) ∨ ∃ r ∈ droppedRuns, r.first ≤ c ∧ c ≤ r.last) := by
  have blind (c : Nat) : blindIn cols c = true ↔ ∀ value, (c, value) ∉ cols := by
    simp only [blindIn, Bool.not_eq_true', List.any_eq_false, beq_iff_eq, Prod.forall]
    exact ⟨fun none value mem => none c value mem rfl, fun none c' value mem same => none value (same ▸ mem)⟩
  have within (c : Nat) : c ∈ List.range' (x.prevLo - 1) (x.prevHi + 2 - (x.prevLo - 1)) ↔
      x.prevLo - 1 ≤ c ∧ c ≤ x.prevHi + 1 := by
    rw [List.mem_range'_1]
    omega
  rw [frozen, Bool.or_eq_true, decide_eq_true_iff, List.any_eq_true]
  refine or_congr_right (exists_congr fun c => ?_)
  simp only [List.mem_filter, within, Bool.and_eq_true, Bool.or_eq_true, LaneRecord.coats_iff, decide_eq_true_iff, blind,
    List.any_eq_true, and_assoc]
  rfl

section
variable (side : Side) (bank : LaneBank) (recipes : Recipes) (isFrozen : Blob → Bool)

/-- R97, R98: what stays of a blob without a run. -/
def Blob.staying (x : Blob) : List Blob :=
  if isFrozen x then [x]
  else if x.misses + 1 ≤ recipes[bank[x.lane].recipe].gapLines then [{ x with misses := x.misses + 1 }]
  else []

/-- R98: the record of a blob without a run. -/
def Blob.gapOffers (x : Blob) : List Offer :=
  if isFrozen x then []
  else if x.misses + 1 ≤ recipes[bank[x.lane].recipe].gapLines then []
  else x.pinholeOffers side bank recipes false recipes[bank[x.lane].recipe].markPinhole

/-- R100: what stays of a blob that has received runs. -/
def Blob.keptOpen (x : Blob) : List Blob :=
  if decide (recipes[bank[x.lane].recipe].maxBlobLines ≤ x.lines) then [] else [x]

/-- R100: the record of a blob that has received runs. -/
def Blob.largeOffers (x : Blob) : List Offer :=
  if decide (recipes[bank[x.lane].recipe].maxBlobLines ≤ x.lines) then
    x.pinholeOffers side bank recipes true recipes[bank[x.lane].recipe].markLarge
  else []

end

/-! ### The walk of the table (R99) -/

/-- R99: a walk leaves of a table these blobs, and makes these records. -/
structure Walked (side : Side) (walk : WorkBlob → List Blob × List Made) (table : List WorkBlob) (blobs : List Blob)
    (offers : List Offer) : Prop where
  blobs : (table.flatMap fun w => (walk w).1) = blobs
  offers : (table.flatMap fun w => offersOf (.engine side) (walk w).2) = offers

theorem Walked.append {side : Side} {walk : WorkBlob → List Blob × List Made} {table table' : List WorkBlob}
    {blobs blobs' : List Blob} {offers offers' : List Offer} (front : Walked side walk table blobs offers)
    (back : Walked side walk table' blobs' offers') :
    Walked side walk (table ++ table') (blobs ++ blobs') (offers ++ offers') where
  blobs := by rw [List.flatMap_append, front.blobs, back.blobs]
  offers := by rw [List.flatMap_append, front.offers, back.offers]

section
variable {side : Side} {position : Position} {bank : LaneBank} {recipes : Recipes} {levels : Vector LaneLevel 16}
  {cols : List (Nat × Nat)} {droppedRuns : List Run}

/-- R97, R98: the walk of a blob without a run. -/
theorem walkBlob_atStart (x : Blob) :
    walkBlob side bank recipes levels cols droppedRuns position x.atStart
      = if frozen bank levels cols droppedRuns x then ([x], [])
        else if x.misses + 1 ≤ recipes[bank[x.lane].recipe].gapLines then ([{ x with misses := x.misses + 1 }], [])
        else ([], closeBlob side bank recipes PinholeFlags.gap x) := rfl

/-- R96, R100: the walk of a blob that has received runs. -/
theorem walkBlob_received {w : WorkBlob} {runs : List Run} {first last : Nat} {b : Blob} (same : w.runs.Perm runs)
    (hull : IsHull runs first last) (grown : w.blob.grown position runs first last = b) :
    walkBlob side bank recipes levels cols droppedRuns position w
      = if recipes[bank[b.lane].recipe].maxBlobLines ≤ b.lines then
          ([], closeBlob side bank recipes { PinholeFlags.gap with large := true } b)
        else ([b], []) := by
  obtain ⟨x, spans, received⟩ := w
  cases received with
  | nil =>
    obtain ⟨r, mem, -⟩ := hull.1
    exact absurd (same.mem_iff.mpr mem) List.not_mem_nil
  | cons r rest =>
    obtain rfl : updateBlob position x r rest = b := (updateBlob_eq_grown position x same hull).trans grown
    rfl

theorem Walked.idle {isFrozen : Blob → Bool} {blobs : List Blob}
    (freezes : ∀ x ∈ blobs, frozen bank levels cols droppedRuns x = isFrozen x) :
    Walked side (walkBlob side bank recipes levels cols droppedRuns position) (blobs.map Blob.atStart)
      (blobs.flatMap (Blob.staying bank recipes isFrozen)) (blobs.flatMap (Blob.gapOffers side bank recipes isFrozen)) where
  blobs := by
    rw [List.flatMap_map]
    refine List.flatMap_congr fun x mem => ?_
    rw [walkBlob_atStart, Blob.staying, freezes x mem]
    split_ifs <;> rfl
  offers := by
    rw [List.flatMap_map]
    refine List.flatMap_congr fun x mem => ?_
    rw [walkBlob_atStart, Blob.gapOffers, freezes x mem]
    split_ifs
    · rfl
    · rfl
    · exact offersOf_closeBlob side bank recipes x false

theorem Walked.received {w : WorkBlob} {runs : List Run} {first last : Nat} {b : Blob} (same : w.runs.Perm runs)
    (hull : IsHull runs first last) (grown : w.blob.grown position runs first last = b) :
    Walked side (walkBlob side bank recipes levels cols droppedRuns position) [w]
      (b.keptOpen bank recipes) (b.largeOffers side bank recipes) := by
  constructor <;> rw [List.flatMap_singleton, walkBlob_received same hull grown]
  · simp only [Blob.keptOpen, decide_eq_true_iff]
    split_ifs <;> rfl
  · simp only [Blob.largeOffers, decide_eq_true_iff]
    split_ifs
    · exact offersOf_closeBlob side bank recipes b true
    · rfl

/-- R93, R96: the blob that a run opens, at the end of the blob update. -/
def Run.opened (r : Run) (position : Position) : Blob :=
  { lane := r.lane, firstPos := position, lastPos := position, firstColumn := r.first
    lastColumn := r.last, prevLo := r.first, prevHi := r.last, area := min 65535 (r.last - r.first + 1)
    peak := r.peak, lines := 1, misses := 0, merged := false }

theorem grown_openBlob (position : Position) (r : Run) :
    (openBlob position r).blob.grown position [r] r.first r.last = r.opened position := by
  simp [Blob.grown, openBlob, Run.opened]

theorem isHull_singleton (r : Run) : IsHull [r] r.first r.last := by
  simp [IsHull]

theorem Walked.opened (runs : List Run) :
    Walked side (walkBlob side bank recipes levels cols droppedRuns position) (runs.map (openBlob position))
      ((runs.map fun r => r.opened position).flatMap (Blob.keptOpen bank recipes))
      ((runs.map fun r => r.opened position).flatMap (Blob.largeOffers side bank recipes)) := by
  induction runs with
  | nil => exact ⟨rfl, rfl⟩
  | cons r rest ih =>
    exact (Walked.received (w := openBlob position r) (.refl _) (isHull_singleton r) (grown_openBlob position r)).append ih

/-- R91 to R100: the stage, from what the runs make of the table and what the walk makes of that. -/
theorem Engine.stageBlobs_walked {e : Engine} {table : List WorkBlob} {lost : List Run} {blobs : List Blob}
    {offers made : List Offer} (taken : e.runList.foldl (takeRun position) (startUpdate e.blobs, []) = (table, lost))
    (walked : Walked side (walkBlob side bank recipes e.laneLevels cols droppedRuns position) table blobs offers)
    (reported : offersOf (.engine side) (blobsOverflow side position lost.reverse) ++ offers = made) :
    e.stageBlobs side position bank recipes cols droppedRuns
      = { e with runList := [], blobDrops := lost.length, blobs := blobs, recordList := e.recordList ++ made } := by
  have records (made : List Made) :
      offersOf (.engine side)
          (made
            ++ (table.map (walkBlob side bank recipes e.laneLevels cols droppedRuns position)).flatMap fun w => w.2)
        = offersOf (.engine side) made ++ offers := by
    rw [← walked.offers, List.flatMap_map]
    simp only [offersOf, List.map_append, List.map_flatMap]
  have left : ((table.map (walkBlob side bank recipes e.laneLevels cols droppedRuns position)).flatMap fun w => w.1)
      = blobs := by rw [← walked.blobs, List.flatMap_map]
  rw [← reported, ← records, ← left]
  unfold Engine.stageBlobs
  rw [taken]
  rfl

end

/-- R95: the record of the runs that open no blob, as the engine offers it. -/
theorem offersOf_blobsOverflow (side : Side) (position : Position) (lost : List Run) :
    offersOf (.engine side) (blobsOverflow side position lost)
      = match lost with
        | [] => []
        | r :: _ =>
          [plainOffer (.engine side)
            { side := some side, lane := some r.lane, position := position,
              content := .overflowBlobs lost.length r.first } none] := by
  cases lost <;> rfl

/-! ### Two blobs that merge (R94) -/

/-- Of two positions that are not 2^31 apart one is at or ahead of the other. -/
theorem atOrAhead_of_not_ahead {p q : Position} (apart : (p - q).toNat ≠ 2 ^ 31) (behind : ¬ahead p q = true) :
    atOrAhead q p = true := by
  by_cases same : q = p
  · simp [atOrAhead, same]
  · have ahead_q : ahead q p = true := by
      have := distance_pos same
      have := distance_pos (Ne.symm same)
      rw [ahead_iff] at behind ⊢
      simp only [BitVec.toNat_sub] at *
      omega
    rw [atOrAhead, ahead_q, Bool.or_true]

/-- R94: of two first positions that are not 2^31 apart the earlier is the one that the other is ahead of. -/
theorem earlierPos_eq {p q : Position} (apart : (p - q).toNat ≠ 2 ^ 31) :
    earlierPos p q = if ahead p q then q else p := by
  unfold earlierPos
  split
  case isTrue => rfl
  case isFalse behind => rw [atOrAhead_of_not_ahead apart behind, Bool.true_or, if_pos rfl]

/-- R94: the older blob with the younger merged into it. -/
def Blob.mergedWith (x y : Blob) : Blob :=
  { x with
    firstColumn := min x.firstColumn y.firstColumn, lastColumn := max x.lastColumn y.lastColumn
    area := min 65535 (x.area + y.area)
    firstPos := if ahead x.firstPos y.firstPos then y.firstPos else x.firstPos
    peak := max x.peak y.peak, lines := max x.lines y.lines, merged := true }

theorem blob_absorb {x y : Blob} (apart : (x.firstPos - y.firstPos).toNat ≠ 2 ^ 31) :
    (x.atStart.absorb y.atStart).blob = x.mergedWith y := by
  simp only [WorkBlob.absorb, Blob.atStart, earlierPos_eq apart]
  rfl

/-! ### Runs against a table of open blobs -/

theorem untouched_atStart {r : Run} {blobs : List Blob} (apart : ∀ z ∈ blobs, ¬r.Touches z) :
    ∀ z ∈ blobs.map Blob.atStart, z.touchedBy r = false :=
  List.forall_mem_map.mpr fun z mem => Blob.touchedBy_atStart_eq_false (apart z mem)

/-- Runs that all touch one blob of a table alone. -/
theorem foldl_takeRun_atStart_one (position : Position) {older younger : List Blob} {x : Blob} {runs : List Run}
    (only : ∀ r ∈ runs, r.Touches x ∧ ∀ z ∈ older ++ younger, ¬r.Touches z) :
    runs.foldl (takeRun position) (startUpdate (older ++ x :: younger), [])
      = (older.map Blob.atStart ++ [x.atStart.withRuns runs] ++ younger.map Blob.atStart, []) := by
  rw [← List.append_cons, startUpdate_eq, List.map_append, List.map_cons]
  refine foldl_takeRun_one position [] runs fun r mem => ⟨(x.touchedBy_atStart r).mpr (only r mem).1, ?_⟩
  rw [← List.map_append]
  exact untouched_atStart (only r mem).2

/-- Runs that touch two blobs of a table alone, one of them both. -/
theorem foldl_takeRun_atStart_two (position : Position) {older between younger : List Blob} {x y : Blob}
    {runs : List Run} (both : ∃ r ∈ runs, r.Touches x ∧ r.Touches y)
    (only : ∀ r ∈ runs, (r.Touches x ∨ r.Touches y) ∧ ∀ z ∈ older ++ between ++ younger, ¬r.Touches z) :
    ∃ received, received.Perm runs
      ∧ runs.foldl (takeRun position) (startUpdate (older ++ x :: (between ++ y :: younger)), [])
        = (older.map Blob.atStart
            ++ [(x.atStart.absorb y.atStart).withRuns received] ++ between.map Blob.atStart
            ++ younger.map Blob.atStart, []) := by
  have lane : x.lane = y.lane := have ⟨_, _, touches, touches'⟩ := both; touches.1.trans touches'.1.symm
  simp only [startUpdate_eq, List.map_append, List.map_cons, List.append_assoc, List.singleton_append]
  refine foldl_takeRun_two position [] runs (w := x.atStart) (v := y.atStart) lane ?_ fun r mem => ⟨?_, ?_⟩
  · simpa only [Blob.touchedBy_atStart] using both
  · simpa only [Blob.touchedBy_atStart] using (only r mem).1
  · simp only [← List.map_append]
    exact untouched_atStart (only r mem).2

end Sys2Proof.Machine

open Sys2Proof Sys2Proof.Machine

/-- Settles O35: the runs are taken one by one, and the walk is that of the blobs they leave, with runs or without. -/
theorem blobUpdateOpensGrowsMergesAndCloses : Obligations.BlobUpdateOpensGrowsMergesAndCloses := by
  intro e side position bank recipes cols droppedRuns isFrozen isFrozen_iff after recipe record stays closes touches grown
    isLarge kept largeRecord walked spans
  have idle {blobs : List Blob} (listed : ∀ x ∈ blobs, x ∈ e.blobs) :
      Walked side (walkBlob side bank recipes e.laneLevels cols droppedRuns position) (blobs.map Blob.atStart)
        (blobs.flatMap stays) (blobs.flatMap closes) :=
    .idle fun x mem => Bool.eq_iff_iff.mpr ((frozen_iff ..).trans (isFrozen_iff x (listed x mem)).symm)
  refine ⟨fun apart => ?_, fun older younger x first last table hull only => ?_,
    fun older between younger x y first last table hull both only positions => ?_⟩
  · have taken := foldl_takeRun_none position [] e.runList fun r mem => untouched_atStart (apart r mem)
    rw [List.length_map, List.append_nil] at taken
    have stage := Engine.stageBlobs_walked taken ((idle fun x mem => mem).append (.opened _)) rfl
    rw [List.length_reverse, List.reverse_reverse, offersOf_blobsOverflow, ← List.append_assoc _ _ (List.flatMap _ _)]
      at stage
    exact stage
  · have taken := foldl_takeRun_atStart_one position only
    rw [← table] at taken
    exact Engine.stageBlobs_walked taken
      (((idle fun z mem => by simp [table, mem]).append
          (.received (w := x.atStart.withRuns e.runList) (.refl _) hull rfl)).append
        (idle fun z mem => by simp [table, mem]))
      rfl
  · obtain ⟨received, same, taken⟩ := foldl_takeRun_atStart_two position both only
    rw [← table] at taken
    exact Engine.stageBlobs_walked taken
      ((((idle fun z mem => by simp [table, mem]).append
            (.received (w := (x.atStart.absorb y.atStart).withRuns received) same hull
              (congrArg (Blob.grown · position e.runList first last) (blob_absorb positions)))).append
          (idle fun z mem => by simp [table, mem])).append
        (idle fun z mem => by simp [table, mem]))
      rfl
end

section
/-! SUPPORT. Streak detection (R108 to R121): the answers of SET_SIDE, the accumulator and where it comes to rest, the
evaluated bins and what stage 6 leaves of the others, and what each transition of a bin makes of its engine. -/

namespace Sys2Proof.Machine

/-! ### SET_SIDE (R108) -/

theorem exec_setSide_read {s : State} {p : Port} (sd w : Byte) (taken : s.takes p) :
    exec (.setSide p [sd, w]) s
      = .next ((readSide sd).elim (s.refused p 2 .range) fun side => (s.begun p 2).setSide p side w.toNat) := by
  refine congrArg Host.Outcome.next ((takeCommand_taken s p [sd, w] readSetSide _ taken).trans ?_)
  cases side : readSide sd <;>
    simp only [readSetSide, side, List.length_cons, List.length_nil, State.refuse_begun, Option.elim]

/-- R108: SET_SIDE at the engine is refused STATE, then RANGE, and otherwise sets the width with a new bin array. -/
theorem State.setSide_cases (s : State) (p : Port) (len : Nat) (side : Side) (width : Nat) :
    let fits := width = 4 ∨ width = 8 ∨ width = 16
    (s.runState ≠ .standby → (s.begun p len).setSide p side width = s.refused p len .state)
      ∧ (s.runState = .standby → ¬fits → (s.begun p len).setSide p side width = s.refused p len .range)
      ∧ (s.runState = .standby → fits →
        (s.begun p len).setSide p side width
          = { s.answered p len { code := .ok, body := [] } with
              eng := s.eng.set side { (s.eng.get side) with binWidth := width, bins := [] } }) := by
  intro fits
  refine ⟨fun run => (if_pos run).trans (State.refuse_begun ..), fun idle unfit => ?_, fun idle fit => ?_⟩
  all_goals refine (if_neg fun run => run idle).trans ?_
  · exact (if_neg unfit).trans (State.refuse_begun ..)
  · exact (if_pos fit).trans (s.answerOk_lanes p len _ s.lanes s.store)

/-! ### The accumulator (R111, R112) -/

theorem accumulate_eq_floor (shift : Nat) (s deviation : Int) :
    accumulate shift s deviation = s + Int.floor (((16 * deviation - s : Int) : ℚ) / 2 ^ shift) := by
  have floor := Rat.floor_intCast_div_natCast (16 * deviation - s) (2 ^ shift)
  push_cast at floor ⊢
  rw [accumulate, floor]

/-- R112: with shift 0 the accumulator takes its target at once. -/
theorem accumulate_zero (s deviation : Int) : accumulate 0 s deviation = 16 * deviation := by
  rw [accumulate, pow_zero, Int.ediv_one, add_sub_cancel]

/-- R112: from above, an update lowers the accumulator, and not past its target. -/
theorem accumulate_of_above (shift : Nat) {s deviation : Int} (above : 16 * deviation < s) :
    16 * deviation ≤ accumulate shift s deviation ∧ accumulate shift s deviation ≤ s - 1 := by
  have unit : (1 : Int) ≤ 2 ^ shift := one_le_pow₀ (by decide)
  have falls : (16 * deviation - s) / 2 ^ shift < 0 := Int.ediv_neg_of_neg_of_pos (by omega) (by omega)
  have slowly : 16 * deviation - s ≤ (16 * deviation - s) / 2 ^ shift :=
    Int.le_ediv_of_mul_le (by omega) (by nlinarith)
  unfold accumulate
  omega

/-- R112: from below, an update does not lower the accumulator, and does not take it past its target. -/
theorem accumulate_of_le (shift : Nat) {s deviation : Int} (below : s ≤ 16 * deviation) :
    s ≤ accumulate shift s deviation ∧ accumulate shift s deviation ≤ 16 * deviation := by
  have unit : (1 : Int) ≤ 2 ^ shift := one_le_pow₀ (by decide)
  have rises : 0 ≤ (16 * deviation - s) / 2 ^ shift := Int.ediv_nonneg (by omega) (by omega)
  have slowly : (16 * deviation - s) / 2 ^ shift ≤ 16 * deviation - s := Int.ediv_le_self _ (by omega)
  unfold accumulate
  omega

/-- R112: an accumulator at or above its target is not taken below it. -/
theorem accumulate_not_below (shift : Nat) {s deviation : Int} (above : 16 * deviation ≤ s) :
    16 * deviation ≤ accumulate shift s deviation := by
  rcases above.eq_or_lt with same | above
  · exact same.le.trans (accumulate_of_le shift same.ge).1
  · exact (accumulate_of_above shift above).1

/-- R112: from below, the accumulator rests where it stands less than 2^shift short of its target. -/
theorem accumulate_eq_self_iff (shift : Nat) {s deviation : Int} (below : s ≤ 16 * deviation) :
    accumulate shift s deviation = s ↔ 16 * deviation - s < 2 ^ shift := by
  have positive : (0 : Int) < 2 ^ shift := by positivity
  rw [accumulate, add_eq_left]
  refine ⟨fun rests => ?_, fun short => Int.ediv_eq_zero_of_lt (by omega) short⟩
  by_contra far
  have one_step : 1 ≤ (16 * deviation - s) / 2 ^ shift := Int.le_ediv_of_mul_le positive (by omega)
  omega

/-- R112: an update that changes the accumulator takes it nearer to its target. -/
theorem accumulate_nearer (shift : Nat) {s deviation : Int} (moves : accumulate shift s deviation ≠ s) :
    (16 * deviation - accumulate shift s deviation).natAbs < (16 * deviation - s).natAbs := by
  rcases lt_or_ge (16 * deviation) s with above | below
  · have := accumulate_of_above shift above
    omega
  · have := accumulate_of_le shift below
    omega

theorem accumulate_inRange (shift : Nat) {s deviation : Int} (low : -255 ≤ deviation) (high : deviation ≤ 255)
    (fits : AccumulatorFits s) : AccumulatorFits (accumulate shift s deviation) := by
  obtain ⟨least, most⟩ := fits
  unfold AccumulatorFits
  rcases lt_or_ge (16 * deviation) s with above | below
  · have := accumulate_of_above shift above
    omega
  · have := accumulate_of_le shift below
    omega

/-- A function that takes every point it moves nearer comes to rest, wherever it starts. -/
theorem exists_iterate_isFixedPt {α : Type} {f : α → α} (distance : α → Nat)
    (nearer : ∀ x, f x ≠ x → distance (f x) < distance x) (x : α) : ∃ n, Function.IsFixedPt f (f^[n] x) := by
  induction x using (measure distance).wf.induction with
  | _ x ih =>
    by_cases rests : f x = x
    · exact ⟨0, rests⟩
    · obtain ⟨n, fixed⟩ := ih (f x) (nearer x rests)
      exact ⟨n + 1, fixed⟩

/-- R112: updates toward one target bring the accumulator to a value at which it stays. -/
theorem accumulate_settles (shift : Nat) (s deviation : Int) :
    ∃ n, Function.IsFixedPt (accumulate shift · deviation) ((accumulate shift · deviation)^[n] s)
      ∧ ∀ m, n ≤ m → (accumulate shift · deviation)^[m] s = (accumulate shift · deviation)^[n] s := by
  obtain ⟨n, fixed⟩ :=
    exists_iterate_isFixedPt (fun x => (16 * deviation - x).natAbs) (fun _ => accumulate_nearer shift) s
  refine ⟨n, fixed, fun m later => ?_⟩
  rw [← Nat.sub_add_cancel later, Function.iterate_add_apply]
  exact fixed.iterate _

/-- R112: from above, the updates reach the target and stay there. -/
theorem accumulate_reaches (shift : Nat) {s deviation : Int} (above : 16 * deviation ≤ s) :
    ∃ n, ∀ m, n ≤ m → (accumulate shift · deviation)^[m] s = 16 * deviation := by
  obtain ⟨n, fixed, stays⟩ := accumulate_settles shift s deviation
  refine ⟨n, fun m later => (stays m later).trans ?_⟩
  have not_past : 16 * deviation ≤ (accumulate shift · deviation)^[n] s :=
    Function.Iterate.rec (16 * deviation ≤ ·) above (fun _ le => accumulate_not_below shift le) n
  refine (not_past.eq_or_lt.resolve_right fun lt => ?_).symm
  have falls := (accumulate_of_above shift lt).2
  have rests : accumulate shift _ deviation = _ := fixed
  omega

/-- R112: from below, the updates come to rest less than 2^shift short of the target. -/
theorem accumulate_stops_short (shift : Nat) {s deviation : Int} (below : s ≤ 16 * deviation) :
    ∃ n, ∀ m, n ≤ m → (accumulate shift · deviation)^[m] s = (accumulate shift · deviation)^[n] s
      ∧ (accumulate shift · deviation)^[n] s ≤ 16 * deviation
      ∧ 16 * deviation - (accumulate shift · deviation)^[n] s < 2 ^ shift := by
  obtain ⟨n, fixed, stays⟩ := accumulate_settles shift s deviation
  have not_past : (accumulate shift · deviation)^[n] s ≤ 16 * deviation :=
    Function.Iterate.rec (· ≤ 16 * deviation) below (fun _ le => (accumulate_of_le shift le).2) n
  exact ⟨n, fun m later => ⟨stays m later, not_past, (accumulate_eq_self_iff shift not_past).mp fixed⟩⟩

/-- Repeating an update by recursion is iterating it. -/
theorem rec_eq_iterate {α : Type} (f : α → α) (x : α) (n : Nat) :
    Nat.rec (motive := fun _ => α) x (fun _ y => f y) n = f^[n] x := by
  induction n with
  | zero => rfl
  | succ n ih => exact (congrArg f ih).trans (Function.iterate_succ_apply' f n x).symm

/-! ### The evaluated bins (R107, R109) -/

/-- R109: every column of bin j lies in the coated zone of the lane. -/
theorem bin_coated_iff (l : LaneRecord) {w : Nat} (wide : 0 < w) (j : Nat) :
    (l.coatedFirst ≤ j * w ∧ j * w + w ≤ l.coatedLast + 1) ↔
      ∀ column, j * w ≤ column → column < j * w + w → l.coatedFirst ≤ column ∧ column ≤ l.coatedLast := by
  refine ⟨fun inside column low high => by omega, fun inside => ?_⟩
  have first := inside (j * w) le_rfl (by omega)
  have last := inside (j * w + w - 1) (by omega) (by omega)
  omega

/-- R109: where the coated zones are disjoint, the lane of a bin is the one in whose zone every column of it lies. -/
theorem binLane_eq_some_iff {bank : LaneBank} (disjoint : bank.ZonesDisjoint) {w : Nat} (wide : 0 < w) (j : Nat)
    (lane : LaneId) :
    binLane bank w j = some lane ↔
      bank[lane].enabled = true
        ∧ ∀ column, j * w ≤ column → column < j * w + w →
          bank[lane].coatedFirst ≤ column ∧ column ≤ bank[lane].coatedLast := by
  have found_holds : ∀ {i : LaneId}, binLane bank w j = some i →
      bank[i].enabled = true ∧ ∀ column, j * w ≤ column → column < j * w + w →
        bank[i].coatedFirst ≤ column ∧ column ≤ bank[i].coatedLast := fun {i} found =>
    ⟨(mem_enabledLanes ..).mp (List.mem_of_find?_eq_some found),
      (bin_coated_iff bank[i] wide j).mp (by simpa using List.find?_some found)⟩
  refine ⟨found_holds, fun ⟨enabled, zone⟩ => ?_⟩
  obtain ⟨i, found⟩ := Option.isSome_iff_exists.mp
    (binLane_isSome ⟨lane, enabled, (bin_coated_iff bank[lane] wide j).mpr zone⟩)
  obtain ⟨enabled', zone'⟩ := found_holds found
  by_cases same : i = lane
  · exact same ▸ found
  · obtain ⟨first, last⟩ := zone' (j * w) le_rfl (by omega)
    exact absurd (zone (j * w) le_rfl (by omega)) (disjoint i lane same enabled' enabled _ first last)

theorem mem_evaluatedBins (bank : LaneBank) (w j : Nat) (lane : LaneId) :
    (j, lane) ∈ evaluatedBins bank w ↔ j < 16384 / w ∧ binLane bank w j = some lane := by
  simp [evaluatedBins, Config.columns]

/-- R107, R109: where no coated zone of an enabled lane reaches past the last column, every bin with a lane is evaluated. -/
theorem mem_evaluatedBins_iff_binLane {bank : LaneBank}
    (within : ∀ i : LaneId, bank[i].enabled = true → bank[i].coatedLast < 16384) {w : Nat} (wide : 0 < w) (j : Nat)
    (lane : LaneId) : (j, lane) ∈ evaluatedBins bank w ↔ binLane bank w j = some lane := by
  rw [mem_evaluatedBins, and_iff_right_iff_imp]
  intro found
  have enabled : bank[lane].enabled = true := (mem_enabledLanes ..).mp (List.mem_of_find?_eq_some found)
  have zone : bank[lane].coatedFirst ≤ j * w ∧ j * w + w ≤ bank[lane].coatedLast + 1 := by
    simpa using List.find?_some found
  have last := within lane enabled
  rw [← Nat.succ_le_iff, Nat.le_div_iff_mul_le wide, Nat.succ_mul]
  omega

/-- R120: the bins are taken from bin 0 upward. -/
theorem evaluatedBins_rising (bank : LaneBank) (w : Nat) :
    (evaluatedBins bank w).Pairwise fun x y => x.1 < y.1 := by
  refine List.Pairwise.filterMap _ (fun i i' lt x mem y mem' => ?_) List.pairwise_lt_range
  obtain ⟨_, _, rfl⟩ := Option.map_eq_some_iff.mp mem
  obtain ⟨_, _, rfl⟩ := Option.map_eq_some_iff.mp mem'
  exact lt

/-! ### The bins that stage 6 leaves alone (R109, R120) -/

/-- Leaving out indexes clears the values at them, and keeps those at the others. -/
theorem sparseGet_filter {α : Type} (d : α) (keeps : Nat → Bool) (m : List (Nat × α)) (k : Nat) :
    sparseGet d (m.filter fun x => keeps x.1) k = if keeps k then sparseGet d m k else d := by
  induction m with
  | nil => exact (ite_self d).symm
  | cons x rest ih =>
    rw [List.filter_cons]
    by_cases here : x.1 = k
    · subst here
      split
      case isTrue kept => simp only [sparseGet, if_true]
      case isFalse out => rw [ih, if_neg out]
    · split
      case isTrue kept => simp only [sparseGet, if_neg here, ih]
      case isFalse out => simp only [sparseGet, if_neg here, ih]

/-- R109: a bin that is not evaluated is held QUIET. -/
theorem Engine.bin_quietUnevaluated (e : Engine) (bank : LaneBank) (j : Nat) :
    (e.quietUnevaluated bank).bin j = if (binLane bank e.binWidth j).isSome then e.bin j else Bin.quiet 0 :=
  sparseGet_filter (Bin.quiet 0) (fun j => (binLane bank e.binWidth j).isSome) e.bins j

/-- The bins of two engines are the same but for what is written at bin j. -/
def Engine.WritesBin (e f : Engine) (j : Nat) : Prop := f.bins = e.bins ∨ ∃ b, f.bins = (e.setBin j b).bins

theorem Engine.WritesBin.of_setBin (e : Engine) (j : Nat) (b : Bin) : e.WritesBin (e.setBin j b) j := .inr ⟨b, rfl⟩

theorem Engine.WritesBin.wf {e f : Engine} {j : Nat} (writes : e.WritesBin f j)
    (wf : sparseWf (Bin.quiet 0) e.bins = true) : sparseWf (Bin.quiet 0) f.bins = true := by
  rcases writes with same | ⟨b, written⟩
  · exact same ▸ wf
  · exact written ▸ sparseWf_sparseSet _ _ _ _ wf

theorem Engine.WritesBin.bin_ne {e f : Engine} {j : Nat} (writes : e.WritesBin f j)
    (wf : sparseWf (Bin.quiet 0) e.bins = true) {i : Nat} (other : i ≠ j) : f.bin i = e.bin i := by
  rcases writes with same | ⟨b, written⟩
  · rw [Engine.bin, Engine.bin, same]
  · rw [Engine.bin, written]
    exact (sparseGet_sparseSet _ _ 0 _ _ _ wf).trans (if_neg other)

theorem Engine.confirm_writes (e : Engine) (x : BinContext) (b : Bin) : e.WritesBin (e.confirm x b) x.index := by
  unfold Engine.confirm
  split
  · split
    · exact .inr ⟨_, rfl⟩
    · exact .inr ⟨_, rfl⟩
  · exact .of_setBin ..

theorem Engine.quietBin_writes (e : Engine) (x : BinContext) (s : Int) : e.WritesBin (e.quietBin x s) x.index := by
  unfold Engine.quietBin
  split
  · exact .of_setBin ..
  · split
    · exact e.confirm_writes x _
    · exact .of_setBin ..

theorem Engine.streakBin_writes (e : Engine) (x : BinContext) (b : Bin) (s : Int) :
    e.WritesBin (e.streakBin x b s) x.index := by
  unfold Engine.streakBin
  split
  · simp only
    split
    · exact .inr ⟨_, rfl⟩
    · exact .of_setBin ..
  · exact Engine.quietBin_writes
      { e.addRecords x.side [e.streakCloseRecord x.side x.bank .ended x.index (some x.lane) b] with
        streaks := e.streaks.filter fun entry => entry.bin ≠ x.index } x s

theorem Engine.transition_writes (e : Engine) (x : BinContext) (s : Int) :
    e.WritesBin (e.transition x s) x.index := by
  simp only [Engine.transition]
  split
  · exact e.quietBin_writes x s
  · unfold Engine.candidateBin
    split
    · exact e.confirm_writes x _
    · exact e.quietBin_writes x s
  · exact e.streakBin_writes x _ s

theorem stepBin_writes (side : Side) (position : Position) (bank : LaneBank) (recipes : Recipes)
    (cols : List (Nat × Nat)) (e : Engine) (jl : Nat × LaneId) :
    e.WritesBin (stepBin side position bank recipes cols e jl) jl.1 := by
  simp only [stepBin]
  split
  · split
    · exact e.transition_writes _ _
    · exact .inl rfl
  · exact .inl rfl

/-- R120: a bin that is not taken stays as it stands. -/
theorem foldl_stepBin_bin (side : Side) (position : Position) (bank : LaneBank) (recipes : Recipes)
    (cols : List (Nat × Nat)) {j : Nat} {l : List (Nat × LaneId)} (untaken : ∀ jl ∈ l, j ≠ jl.1) {e : Engine}
    (wf : sparseWf (Bin.quiet 0) e.bins = true) :
    (l.foldl (stepBin side position bank recipes cols) e).bin j = e.bin j := by
  induction l generalizing e with
  | nil => rfl
  | cons jl rest ih =>
    obtain ⟨other, later⟩ := List.forall_mem_cons.mp untaken
    have writes := stepBin_writes side position bank recipes cols e jl
    exact (ih later (writes.wf wf)).trans (writes.bin_ne wf other)

/-- R109, R120: a bin without a lane is QUIET with s = 0 after stage 6. -/
theorem Engine.bin_stageStreaks_unlaned {e : Engine} (side : Side) (position : Position) {bank : LaneBank}
    (recipes : Recipes) (cols : List (Nat × Nat)) (wf : sparseWf (Bin.quiet 0) e.bins = true) {j : Nat}
    (unlaned : binLane bank e.binWidth j = none) :
    (e.stageStreaks side position bank recipes cols).bin j = Bin.quiet 0 := by
  have untaken : ∀ jl ∈ evaluatedBins bank e.binWidth, j ≠ jl.1 := by
    rintro ⟨_, lane⟩ mem rfl
    exact Option.some_ne_none lane (((mem_evaluatedBins ..).mp mem).2.symm.trans unlaned)
  have quieted_wf : sparseWf (Bin.quiet 0) (e.quietUnevaluated bank).bins = true := sparseWfFrom_filter _ _ _ 0 wf
  calc (e.stageStreaks side position bank recipes cols).bin j
      = (e.quietUnevaluated bank).bin j := foldl_stepBin_bin side position bank recipes cols untaken quieted_wf
    _ = Bin.quiet 0 := by simp [Engine.bin_quietUnevaluated, unlaned]

/-! ### Frozen and updated bins (R110, R111) -/

/-- R110: a bin with a blind column is frozen. -/
theorem stepBin_blindColumn (side : Side) (position : Position) (bank : LaneBank) (recipes : Recipes)
    (cols : List (Nat × Nat)) {e : Engine} {jl : Nat × LaneId}
    (blind : (binValues cols e.binWidth jl.1).length ≠ e.binWidth) :
    stepBin side position bank recipes cols e jl = e := by
  simp only [stepBin, if_neg blind]
  split <;> rfl

/-- R111, R120: a bin that is not frozen makes its transition at the updated accumulator. -/
theorem stepBin_updates (side : Side) (position : Position) (bank : LaneBank) (recipes : Recipes)
    (cols : List (Nat × Nat)) {e : Engine} {jl : Nat × LaneId} {m : Nat} (mean : e.laneLevels[jl.2] = .mean m)
    (whole : (binValues cols e.binWidth jl.1).length = e.binWidth) :
    stepBin side position bank recipes cols e jl
      = e.transition
          { side := side, position := position, bank := bank, recipe := laneRecipe bank recipes jl.2, lane := jl.2
            index := jl.1 }
          (accumulate (laneRecipe bank recipes jl.2).shift (e.bin jl.1).s
            ((((binValues cols e.binWidth jl.1).sum / e.binWidth : Nat) : Int) - m)) := by
  simp only [stepBin, mean, if_pos whole]

theorem binValues_eq (cols : List (Nat × Nat)) (w j : Nat) :
    binValues cols w j = (cols.filter fun c => decide (j * w ≤ c.1 ∧ c.1 < j * w + w)).map (·.2) := by
  simp only [binValues, Bool.decide_and]

/-! ### Polarity and conditions (R113, R114) -/

/-- R113: the accumulator value has this polarity. -/
def HasPolarity (s : Int) (sign : Polarity) : Prop := (sign = .light ∧ 0 < s) ∨ (sign = .dark ∧ s < 0)

/-- R113: the recipe tracks this polarity. -/
def Recipe.Tracks (r : Recipe) (sign : Polarity) : Prop :=
  (sign = .light ∧ r.lightEnable = true) ∨ (sign = .dark ∧ r.darkEnable = true)

/-- R113: an accumulator value with this polarity, tracked, and with at least this level. -/
def Recipe.Reaches (r : Recipe) (s : Int) (sign : Polarity) (level : Nat) : Prop :=
  HasPolarity s sign ∧ r.Tracks sign ∧ 16 * level ≤ s.natAbs

theorem polarity_eq_some_iff (s : Int) (sign : Polarity) : polarity s = some sign ↔ HasPolarity s sign := by
  rcases lt_trichotomy s 0 with dark | rfl | light
  · simp [polarity, HasPolarity, dark, dark.not_gt, eq_comm]
  · simp [polarity, HasPolarity]
  · simp [polarity, HasPolarity, light, light.not_gt, eq_comm]

theorem tracked_iff (r : Recipe) (sign : Polarity) : tracked r sign = true ↔ r.Tracks sign := by
  cases sign <;> simp [tracked, Recipe.Tracks]

theorem holds_iff (r : Recipe) (b : Bin) (s : Int) : holds r b s = true ↔ r.Reaches s b.sign r.streakOff := by
  simp only [holds, Bool.and_eq_true, decide_eq_true_eq, polarity_eq_some_iff, tracked_iff, and_assoc, Recipe.Reaches]

/-! ### Transitions (R114 to R118) -/

/-- R114: what a bin that starts a candidate becomes. -/
def Bin.started (s : Int) (sign : Polarity) (position : Position) : Bin :=
  { s := s, state := .candidate, sign := sign, start := position, last := position, length := 1, peak := s
    sinceReport := 0, waiting := false }

theorem Engine.transition_quiet {e : Engine} {x : BinContext} (quiet : (e.bin x.index).state = .quiet) (s : Int) :
    e.transition x s = e.quietBin x s := by simp only [Engine.transition, quiet]

/-- R115: a candidate that holds undergoes the confirmation test. -/
theorem Engine.transition_candidate_holds {e : Engine} {x : BinContext} {s : Int}
    (candidate : (e.bin x.index).state = .candidate) (held : holds x.recipe (e.bin x.index) s = true) :
    e.transition x s = e.confirm x ((e.bin x.index).hold s x.position) := by
  simp only [Engine.transition, candidate, Engine.candidateBin, if_pos held]

/-- R115: a candidate that does not hold is tested as QUIET. -/
theorem Engine.transition_candidate_ends {e : Engine} {x : BinContext} {s : Int}
    (candidate : (e.bin x.index).state = .candidate) (ends : ¬holds x.recipe (e.bin x.index) s = true) :
    e.transition x s = e.quietBin x s := by
  simp only [Engine.transition, candidate, Engine.candidateBin, if_neg ends]

theorem Engine.transition_streak {e : Engine} {x : BinContext} (streak : (e.bin x.index).state = .streak) (s : Int) :
    e.transition x s = e.streakBin x (e.bin x.index) s := by simp only [Engine.transition, streak]

/-- R114: no candidate starts. -/
theorem Engine.quietBin_rests (e : Engine) (x : BinContext) {s : Int}
    (rests : ∀ sign, ¬x.recipe.Reaches s sign x.recipe.streakOn) : e.quietBin x s = e.setBin x.index (Bin.quiet s) := by
  unfold Engine.quietBin
  split
  case h_1 => rfl
  case h_2 sign has =>
    refine if_neg fun ⟨tracks, level⟩ => rests sign ⟨(polarity_eq_some_iff ..).mp has, ?_, level⟩
    exact (tracked_iff ..).mp tracks

/-- R114: a candidate starts, and undergoes the confirmation test. -/
theorem Engine.quietBin_starts (e : Engine) (x : BinContext) {s : Int} {sign : Polarity}
    (starts : x.recipe.Reaches s sign x.recipe.streakOn) :
    e.quietBin x s = e.confirm x (Bin.started s sign x.position) := by
  obtain ⟨has, tracks, level⟩ := starts
  simp only [Engine.quietBin, (polarity_eq_some_iff ..).mpr has]
  exact if_pos ⟨(tracked_iff ..).mpr tracks, level⟩

/-- R115: the candidate is too short. -/
theorem Engine.confirm_short (e : Engine) {x : BinContext} {b : Bin} (short : b.length < x.recipe.minStreakLines) :
    e.confirm x b = e.setBin x.index b := if_neg (Nat.not_le.mpr short)

/-- R115, R119: the candidate takes a free entry, and its streak opens. -/
theorem Engine.confirm_opens {e : Engine} {x : BinContext} {b : Bin} (long : x.recipe.minStreakLines ≤ b.length)
    (free : e.streaks.length < 64) :
    e.confirm x b
      = { e.setBin x.index { b with state := .streak, waiting := false, sinceReport := 0 } with
          streaks := e.streaks ++ [{ bin := x.index, lane := x.lane, sign := b.sign, start := b.start }]
          recordList := e.recordList
            ++ offersOf (.engine x.side) [streakOpenRecord x.side x.bank x.recipe e.binWidth x.index x.lane b] } :=
  (if_pos long).trans (if_pos free)

/-- R116: the candidate finds no free entry and waits, with one OVERFLOW. -/
theorem Engine.confirm_waits {e : Engine} {x : BinContext} {b : Bin} (long : x.recipe.minStreakLines ≤ b.length)
    (full : 64 ≤ e.streaks.length) :
    e.confirm x b
      = { e.setBin x.index { b with waiting := true } with
          recordList :=
            if b.waiting then e.recordList
            else e.recordList ++ offersOf (.engine x.side) [streaksOverflow x.side x.position x.index x.lane b] } := by
  refine (if_pos long).trans ((if_neg (Nat.not_lt.mpr full)).trans ?_)
  cases b.waiting
  · rfl
  · exact Engine.addRecords_nil ..

/-- R118: an engine from which the streak of a bin has closed, before the bin is tested as QUIET. -/
def Engine.streakEnded (e : Engine) (x : BinContext) (b : Bin) : Engine :=
  { e with
    streaks := e.streaks.filter fun entry => entry.bin ≠ x.index
    recordList := e.recordList
      ++ offersOf (.engine x.side) [e.streakCloseRecord x.side x.bank .ended x.index (some x.lane) b] }

/-- R118: a streak that does not hold closes, and its bin is tested as QUIET. -/
theorem Engine.streakBin_ends (e : Engine) {x : BinContext} {b : Bin} {s : Int} (ends : ¬holds x.recipe b s = true) :
    e.streakBin x b s = (e.streakEnded x b).quietBin x s := if_neg ends

/-- R117: a streak that holds, in a line without a report. -/
theorem Engine.streakBin_holds (e : Engine) {x : BinContext} {b : Bin} {s : Int} (held : holds x.recipe b s = true)
    (counts : b.sinceReport < 65535) (silent : x.recipe.reportLines = 0 ∨ b.sinceReport + 1 < x.recipe.reportLines) :
    e.streakBin x b s = e.setBin x.index { b.hold s x.position with sinceReport := b.sinceReport + 1 } := by
  have next : nextSinceReport b.sinceReport = b.sinceReport + 1 := if_pos counts
  refine (if_pos held).trans ?_
  simp only [next]
  exact if_neg (by omega)

/-- R117: a streak that holds, in a line with a report. -/
theorem Engine.streakBin_reports (e : Engine) {x : BinContext} {b : Bin} {s : Int} (held : holds x.recipe b s = true)
    (counts : b.sinceReport < 65535) (some_lines : 1 ≤ x.recipe.reportLines)
    (due : x.recipe.reportLines ≤ b.sinceReport + 1) :
    e.streakBin x b s
      = { e.setBin x.index { b.hold s x.position with sinceReport := 0 } with
          recordList := e.recordList
            ++ offersOf (.engine x.side)
              [e.streakContinueRecord x.side x.bank x.recipe x.index x.lane (b.hold s x.position)] } := by
  have next : nextSinceReport b.sinceReport = b.sinceReport + 1 := if_pos counts
  refine (if_pos held).trans ?_
  simp only [next]
  exact if_pos ⟨some_lines, due⟩

/-- R121: a streak carries the lane, sign and start position of the entry its bin owns. -/
theorem Engine.streakIdentity_owned {e : Engine} {j : Nat} {entry : StreakEntry}
    (owned : (e.streaks.find? fun x => x.bin = j) = some entry) (b : Bin) (lane : Option LaneId) :
    e.streakIdentity j b lane = (some entry.lane, entry.sign, entry.start) := by
  simp only [Engine.streakIdentity, owned]

end Sys2Proof.Machine

open Sys2Proof Sys2Proof.Machine

/-- Settles O32: the side is that of the byte, and the width is one of the three or not. -/
theorem setSideMakesNewBins : Obligations.SetSideMakesNewBins := by
  intro s p sd w
  refine ⟨fun init => congrArg Host.Outcome.next (takeFrame_init s p 2 _ init), fun taken big => ?_,
    fun side spelled taken => ?_⟩
  · rw [exec_setSide_read sd w taken, readSide_ge big]
    rfl
  · intro fits
    subst spelled
    have width : (w.toNat = 4 ∨ w.toNat = 8 ∨ w.toNat = 16) ↔ fits := by
      simp only [fits, ← BitVec.toNat_inj]
      rfl
    obtain ⟨state, range, sets⟩ := s.setSide_cases p 2 side w.toNat
    rw [exec_setSide_read _ w taken, readSide_sideByte]
    exact ⟨fun run => congrArg _ (state run), fun idle unfit => congrArg _ (range idle (unfit ∘ width.mp)),
      fun idle fit => ⟨congrArg _ (sets idle (width.mpr fit)), fun _ => rfl⟩⟩

/-- Settles O36: a bin of the line is frozen or updated, the updates settle at the target or short of it, and the bins
that stage 6 takes are those with a lane. -/
theorem binFreezesOrMovesTowardTarget : Obligations.BinFreezesOrMovesTowardTarget := by
  refine ⟨fun e side position bank recipes cols j lane => ?_, fun shift s deviation => ?_⟩
  · intro w values recipe after
    have same : values = binValues cols w j := (binValues_eq cols w j).symm
    rw [same]
    refine ⟨fun frozen => ?_, fun m mean whole => stepBin_updates side position bank recipes cols mean whole⟩
    rcases frozen with blind | blind
    · exact stepBin_frozen side position bank recipes cols blind
    · exact stepBin_blindColumn side position bank recipes cols blind
  · intro target next updates
    have iterates : updates = fun n => (accumulate shift · deviation)^[n] s := funext (rec_eq_iterate _ s)
    rw [iterates]
    refine ⟨?_, accumulate_eq_floor shift s deviation, accumulate_of_above shift, accumulate_of_le shift,
      accumulate_eq_self_iff shift, accumulate_reaches shift, accumulate_stops_short shift,
      fun low high least most => accumulate_inRange shift low high ⟨least, most⟩, ?_⟩
    · rintro rfl
      exact accumulate_zero s deviation
    · intro e side position bank recipes cols width wf within disjoint w rests after
      have wide : 0 < w := by omega
      have evaluated (j : Nat) (lane : LaneId) : (j, lane) ∈ evaluatedBins bank w ↔ binLane bank w j = some lane :=
        mem_evaluatedBins_iff_binLane within wide j lane
      refine ⟨evaluatedBins bank w, e.quietUnevaluated bank, evaluatedBins_rising bank w,
        fun j lane => (evaluated j lane).trans (binLane_eq_some_iff disjoint wide j lane), rfl, ?_, rfl, fun j out => ?_⟩
      · rintro j ⟨lane, mem⟩
        rw [Engine.bin_quietUnevaluated, (evaluated j lane).mp mem]
        rfl
      · have unlaned : binLane bank w j = none :=
          Option.eq_none_iff_forall_ne_some.mpr fun lane found => out lane ((evaluated j lane).mpr found)
        have held_quiet : (e.quietUnevaluated bank).bin j = Bin.quiet 0 := by
          rw [Engine.bin_quietUnevaluated, unlaned]
          rfl
        rw [held_quiet, Engine.bin_stageStreaks_unlaned side position recipes cols wf unlaned]
        exact ⟨⟨rfl, rfl, rfl⟩, rfl, rfl, rfl⟩

/-- Settles O37: by the state of the bin and whether it holds at the new accumulator; what starts or stays a candidate
goes through one confirmation test. -/
theorem binTransitionsFollowAccumulator : Obligations.BinTransitionsFollowAccumulator := by
  intro e side position bank r lane j s b after isTracked signOf starts holding quiet started counted fields offered
    tested restarts
  let x : BinContext := { side := side, position := position, bank := bank, recipe := r, lane := lane, index := j }
  have holds_iff : holds r b s = true ↔ holding := holds_iff r b s
  have confirms (d : Engine) (width : d.binWidth = e.binWidth) (c : Bin) : tested d c (d.confirm x c) := by
    refine ⟨fun short => d.confirm_short short, fun long free => ?_, fun long full => Engine.confirm_waits long full⟩
    rw [Engine.confirm_opens long free, width]
    rfl
  have quiets (d : Engine) (width : d.binWidth = e.binWidth) : restarts d (d.quietBin x s) := by
    refine ⟨fun rests => d.quietBin_rests x rests, fun sign reaches => ?_⟩
    rw [d.quietBin_starts x reaches]
    exact confirms d width (started sign)
  refine ⟨?_, fun candidate held => ?_, fun entry streak owned => ?_⟩
  · rintro (quiet_before | ⟨candidate, fails⟩)
    · rw [show after = e.quietBin x s from Engine.transition_quiet quiet_before s]
      exact quiets e rfl
    · rw [show after = e.quietBin x s from Engine.transition_candidate_ends candidate (mt holds_iff.mp fails)]
      exact quiets e rfl
  · rw [show after = e.confirm x counted from Engine.transition_candidate_holds candidate (holds_iff.mpr held)]
    exact confirms e rfl counted
  · intro reported closed
    rw [show after = e.streakBin x b s from Engine.transition_streak streak s]
    refine ⟨fun held counts silent => e.streakBin_holds (holds_iff.mpr held) counts silent,
      fun held counts some_lines due => ?_, fun fails => ?_⟩
    · rw [e.streakBin_reports (holds_iff.mpr held) counts some_lines due, Engine.streakContinueRecord,
        Engine.streakIdentity_owned owned]
      rfl
    · rw [e.streakBin_ends (mt holds_iff.mp fails), Engine.streakEnded, Engine.streakCloseRecord,
        Engine.streakIdentity_owned owned]
      exact quiets _ rfl
end

section
/-! SUPPORT. The record store: what an eviction and an append make of each port's reading state and stale timer, and what an
append leaves as it was. -/

namespace Sys2Proof.Machine

/-! ### The same change at each port -/

/-- One value for each port, each by its port. -/
def PerPort.ofFn {α : Type} (f : Port → α) : PerPort α := { a := f .a, b := f .b, c := f .c }

@[simp] theorem PerPort.get_ofFn {α : Type} (f : Port → α) (p : Port) : (PerPort.ofFn f).get p = f p := by
  cases p <;> rfl

/-- A port with another reading state, and in another state. -/
def State.setPort (s : State) (p : Port) (r : Reading) (c : PortState) : State :=
  { s with store := { s.store with reading := s.store.reading.set p r }, ports := s.ports.set p c }

/-- Every port with another reading state, and in another state, each by what it was. -/
def State.setPorts (s : State) (g : Reading → Reading) (h : Reading → PortState → PortState) : State :=
  { s with
    store := { s.store with reading := .ofFn fun p => g (s.store.reading.get p) }
    ports := .ofFn fun p => h (s.store.reading.get p) (s.ports.get p) }

theorem State.setPort_self (s : State) (p : Port) : s.setPort p (s.store.reading.get p) (s.ports.get p) = s := by
  simp only [State.setPort, PerPort.set_get]

/-- What changes each port alone, by the present time, changes all three as it changes each. -/
theorem State.atEachPort_eq {f : State → Port → State} {g : Reading → Reading}
    {h : Nat → Reading → PortState → PortState}
    (sets : ∀ s p, f s p = s.setPort p (g (s.store.reading.get p)) (h s.now (s.store.reading.get p) (s.ports.get p)))
    (s : State) : s.atEachPort f = s.setPorts g (h s.now) := by
  simp only [State.atEachPort, sets, State.setPort, PerPort.set, PerPort.get, State.setPorts, PerPort.ofFn]

/-! ### One port (R129, R130, R159) -/

/-- R130: the port stands on an evicted record that its filter holds, which it then counts lost. -/
def Reading.loses (r : Reading) (x : Record) : Bool := decide (r.cursor = x.seq) && r.filter.reads x

/-- R130: a port's reading state after an eviction. -/
def Reading.evicting (x : Record) (r : Reading) : Reading :=
  { r with
    cursor := if r.cursor = x.seq then x.seq + 1 else r.cursor
    pending := if r.loses x then r.pending - 1 else r.pending
    lost := if r.loses x then satSucc Config.max16 r.lost else r.lost }

/-- R130, R159: a port after an eviction, at this time and with this reading state before it. -/
def PortState.evicting (x : Record) (now : Nat) (r : Reading) (c : PortState) : PortState :=
  if r.loses x then
    { c with
      raised := { c.raised with storeGap := c.raised.storeGap || decide (r.lost = 0) }
      staleTimer := staleAfter now r.staleTime r.pending (r.pending - 1) c.staleTimer }
  else c

/-- R129: a port's reading state after an append. -/
def Reading.counting (x : Record) (r : Reading) : Reading :=
  { r with pending := if r.filter.reads x then r.pending + 1 else r.pending }

/-- R129, R159: a port after an append, at this time and with this reading state before it. -/
def PortState.counting (x : Record) (now : Nat) (r : Reading) (c : PortState) : PortState :=
  if r.filter.reads x then { c with staleTimer := staleAfter now r.staleTime r.pending (r.pending + 1) c.staleTimer }
  else c

theorem Reading.loses_iff {r : Reading} {x : Record} : r.loses x = true ↔ r.cursor = x.seq ∧ r.filter.reads x = true := by
  simp [Reading.loses]

theorem State.setPending_eq (s : State) (p : Port) (n : Nat) :
    s.setPending p n
      = s.setPort p { s.store.reading.get p with pending := n }
          { s.ports.get p with
            staleTimer :=
              staleAfter s.now (s.store.reading.get p).staleTime (s.store.reading.get p).pending n
                (s.ports.get p).staleTimer } := rfl

theorem State.evictFrom_eq (x : Record) (s : State) (p : Port) :
    s.evictFrom x p
      = s.setPort p ((s.store.reading.get p).evicting x)
          ((s.ports.get p).evicting x s.now (s.store.reading.get p)) := by
  by_cases stands : (s.store.reading.get p).cursor = x.seq
  · cases reads : (s.store.reading.get p).filter.reads x with
    | false =>
      simp [State.evictFrom, Reading.evicting, PortState.evicting, Reading.loses, State.reading, stands, reads,
        State.modReading, State.setPort]
    | true =>
      by_cases none_lost : (s.store.reading.get p).lost = 0 <;>
      simp [State.evictFrom, Reading.evicting, PortState.evicting, Reading.loses, State.reading, stands, reads,
        State.modReading, State.modPort, State.setPort, State.setPending, State.raiseStoreGap, none_lost]
  · have kept : (s.store.reading.get p).evicting x = s.store.reading.get p := by
      simp [Reading.evicting, Reading.loses, stands]
    have quiet : (s.ports.get p).evicting x s.now (s.store.reading.get p) = s.ports.get p := by
      simp [PortState.evicting, Reading.loses, stands]
    rw [kept, quiet, s.setPort_self]
    exact if_neg stands

theorem State.countAppended_eq (x : Record) (s : State) (p : Port) :
    s.countAppended x p
      = s.setPort p ((s.store.reading.get p).counting x)
          ((s.ports.get p).counting x s.now (s.store.reading.get p)) := by
  cases reads : (s.store.reading.get p).filter.reads x with
  | true =>
    simp only [State.countAppended, State.reading, Reading.counting, PortState.counting, reads, if_true]
    exact s.setPending_eq p _
  | false =>
    simp only [State.countAppended, State.reading, Reading.counting, PortState.counting, reads, Bool.false_eq_true,
      if_false]
    exact (s.setPort_self p).symm

/-! ### Eviction and append (R127, R129, R130) -/

theorem State.evictIfFull_room {s : State} (room : s.store.records.length < 2048) : s.evictIfFull = s := if_pos room

/-- R129, R130: a full store evicts its oldest record, and each port is adjusted. -/
theorem State.evictIfFull_full {s : State} {x : Record} {rest : List Record} (records : s.store.records = x :: rest)
    (full : 2048 ≤ s.store.records.length) :
    s.evictIfFull
      = (s.modStore fun t => { t with records := rest, oldestSeq := t.oldestSeq + 1 }).setPorts (·.evicting x)
          (fun r c => c.evicting x s.now r) := by
  have full : ¬s.store.records.length < Config.storeCapacity := Nat.not_lt.mpr full
  rw [State.evictIfFull, if_neg full, records]
  exact State.atEachPort_eq (h := fun now r c => c.evicting x now r) (State.evictFrom_eq x) _

/-- R129: a store with room evicts nothing, and a full one its oldest record. -/
theorem State.evictIfFull_cases (s : State) :
    (s.store.records.length < 2048 ∧ s.evictIfFull = s)
      ∨ ∃ x rest,
        s.store.records = x :: rest ∧ 2048 ≤ s.store.records.length
          ∧ s.evictIfFull
            = (s.modStore fun t => { t with records := rest, oldestSeq := t.oldestSeq + 1 }).setPorts (·.evicting x)
                (fun r c => c.evicting x s.now r) := by
  rcases Nat.lt_or_ge s.store.records.length 2048 with room | full
  · exact .inl ⟨room, State.evictIfFull_room room⟩
  · obtain ⟨x, rest, records⟩ := List.exists_cons_of_length_pos (l := s.store.records) (by omega)
    exact .inr ⟨x, rest, records, full, State.evictIfFull_full records full⟩

/-- R127, R129: the state with a record appended under the next sequence and counted at each port, before the mark scheduler
considers it. -/
def State.appended (s : State) (d : Draft) : State :=
  let x : Record := { seq := s.store.nextSeq, draft := d }
  (s.modStore fun t => { t with records := t.records ++ [x], nextSeq := t.nextSeq + 1 }).setPorts (·.counting x)
    (fun r c => c.counting x s.now r)

theorem State.append_eq (s : State) (o : Offer) :
    s.append o
      = (s.evictIfFull.appended o.draft).considerRecord { seq := s.evictIfFull.store.nextSeq, draft := o.draft } o.flag := by
  rw [State.append, State.atEachPort_eq (h := fun now r c => c.counting _ now r) (State.countAppended_eq _)]
  rfl

/-- R128: the state with the front record of a writer taken, and the writer at the last place of the rotation. -/
def State.frontTaken (s : State) (w : Writer) : State :=
  (s.takeFront w).modStore fun t => { t with rotation := moveLast w t.rotation }

theorem State.arbitrate_served {s : State} {w : Writer} {o : Offer} (next : s.nextWriter = some w)
    (front : s.front w = some o) : s.arbitrate = (s.frontTaken w).append o := by
  rw [State.arbitrate, next]
  dsimp only
  rw [front]
  rfl

/-! ### The candidate of an appended record (R131, R146) -/

/-- R146, R147: a record that the mark scheduler makes with MARK_TROUBLE. -/
theorem State.markTroubleRecord_eq (s : State) (side : Option Side) (lane : Option LaneId) (position : Position)
    (content : Content) :
    s.markTroubleRecord side lane position content
      = { s with
          ports := s.ports.all PortState.withMarkTrouble
          store :=
            s.store.adding
              [plainOffer .marks { side := side, lane := lane, position := position, content := content } none] } := rfl

/-- R131, R144, R146: all that an appended record does at the mark scheduler is to change the orders, or to make a record with
MARK_TROUBLE. -/
theorem State.considerRecord_cases (s : State) (r : Record) (flag : Option Bool) :
    (∃ orders, s.considerRecord r flag = s.setOrders orders)
      ∨ ∃ side lane position content, s.considerRecord r flag = s.markTroubleRecord side lane position content := by
  unfold State.considerRecord
  split
  · simp only [State.place]
    split_ifs
    · exact .inr ⟨_, _, _, _, rfl⟩
    · exact .inl ⟨_, rfl⟩
    · exact .inr ⟨_, _, _, _, rfl⟩
    · exact .inl ⟨_, rfl⟩
  · exact .inl ⟨s.marks.orders, rfl⟩

theorem State.considerRecord_unflagged {s : State} (r : Record) {flag : Option Bool} (unflagged : flag ≠ some true) :
    s.considerRecord r flag = s := by
  unfold State.considerRecord
  split
  case h_1 => exact absurd rfl unflagged
  case h_2 => rfl

end Sys2Proof.Machine
end

section
/-! SUPPORT. Consecutive sequence numbers: the records from a cursor on as the rest of the store behind those it has passed, and
what a port's reading state has to agree with; what appends, evictions, reads and recounts keep of both (R127, R130, R134). -/

namespace Sys2Proof.Machine

/-! ### Sequence numbers -/

theorem seq_toNat_sub (first : Seq) {d i : Nat} (hd : d < 2 ^ 32) (hi : i < 2 ^ 32) :
    (first + BitVec.ofNat 32 i - (first + BitVec.ofNat 32 d)).toNat = (2 ^ 32 - d + i) % 2 ^ 32 := by
  rw [add_sub_add_left_eq_sub, BitVec.toNat_sub, BitVec.toNat_ofNat, BitVec.toNat_ofNat, Nat.mod_eq_of_lt hd,
    Nat.mod_eq_of_lt hi]

theorem seq_add_toNat_sub (first cursor : Seq) : first + BitVec.ofNat 32 (cursor - first).toNat = cursor := by
  rw [BitVec.ofNat_toNat, BitVec.setWidth_eq, add_sub_cancel]

theorem seq_add_succ (first : Seq) (n : Nat) : first + BitVec.ofNat 32 (n + 1) = first + 1 + BitVec.ofNat 32 n := by
  rw [BitVec.ofNat_add, add_comm (BitVec.ofNat 32 n), ← add_assoc]
  rfl

theorem atOrAhead_iff (p q : Seq) : atOrAhead p q = true ↔ (p - q).toNat < 2 ^ 31 := by
  by_cases same : p = q
  · simp [atOrAhead, same]
  · have apart := distance_pos same
    simp only [atOrAhead, Bool.or_eq_true, beq_iff_eq, same, false_or, ahead_iff]
    omega

/-! ### Consecutive records -/

/-- R127: records that carry consecutive sequence numbers from this one on. -/
def Consecutive (first : Seq) (records : List Record) : Prop :=
  ∀ i (h : i < records.length), records[i].seq = first + BitVec.ofNat 32 i

theorem Consecutive.head {first : Seq} {x : Record} {rest : List Record} (h : Consecutive first (x :: rest)) :
    x.seq = first := (h 0 (Nat.succ_pos _)).trans (add_zero first)

theorem Consecutive.tail {first : Seq} {x : Record} {rest : List Record} (h : Consecutive first (x :: rest)) :
    Consecutive (first + 1) rest := fun i lt => by
  have next := h (i + 1) (Nat.succ_lt_succ lt)
  rwa [seq_add_succ] at next

theorem Consecutive.drop {first : Seq} {records : List Record} (h : Consecutive first records) (n : Nat) :
    Consecutive (first + BitVec.ofNat 32 n) (records.drop n) := fun i lt => by
  rw [List.getElem_drop, h, BitVec.ofNat_add, add_assoc]

theorem Consecutive.append {first : Seq} {records : List Record} (h : Consecutive first records) {x : Record}
    (seq : x.seq = first + BitVec.ofNat 32 records.length) : Consecutive first (records ++ [x]) := fun i lt => by
  rw [List.getElem_append]
  split
  case isTrue former => exact h i former
  case isFalse last =>
    have here : i = records.length := by rw [List.length_append, List.length_singleton] at lt; omega
    rw [List.getElem_singleton, seq, here]

/-- A filter that passes over the first n of a list and keeps the others drops the first n. -/
theorem filter_eq_drop {α : Type} {keep : α → Bool} {l : List α} {n : Nat}
    (keeps : ∀ i (h : i < l.length), keep l[i] = true ↔ n ≤ i) : l.filter keep = l.drop n := by
  have before : (l.take n).filter keep = [] := List.filter_eq_nil_iff.mpr fun x mem => by
    obtain ⟨i, lt, rfl⟩ := List.mem_take_iff_getElem.mp mem
    rw [keeps]
    omega
  have behind : (l.drop n).filter keep = l.drop n := List.filter_eq_self.mpr fun x mem => by
    obtain ⟨i, lt, rfl⟩ := List.mem_drop_iff_getElem.mp mem
    rw [keeps]
    omega
  calc l.filter keep = (l.take n ++ l.drop n).filter keep := by rw [List.take_append_drop]
    _ = l.drop n := by rw [List.filter_append, before, behind, List.nil_append]

/-! ### The store and a port's reading state -/

/-- R127: how many of the records held a cursor has passed. -/
def Store.passed (t : Store) (cursor : Seq) : Nat := (cursor - t.oldestSeq).toNat

/-- R134: the records held from a cursor on are those it has not passed. -/
theorem Store.fromCursor_eq {t : Store} (consecutive : t.consecutive) {cursor : Seq}
    (within : t.passed cursor ≤ t.records.length) : t.fromCursor cursor = t.records.drop (t.passed cursor) := by
  obtain ⟨bound, -, seqs⟩ := consecutive
  refine filter_eq_drop fun i lt => ?_
  have apart := seq_toNat_sub t.oldestSeq (d := t.passed cursor) (i := i) (by omega) (by omega)
  rw [Store.passed, seq_add_toNat_sub, ← Store.passed, ← seqs i lt] at apart
  rw [atOrAhead_iff, apart]
  omega

/-- R130, R134: a port's reading state agrees with the store. -/
def Store.Agrees (t : Store) (r : Reading) : Prop :=
  t.passed r.cursor ≤ t.records.length
    ∧ r.pending = ((t.records.drop (t.passed r.cursor)).filter r.filter.reads).length

/-- R127, R130, R134: the sequence numbers are consecutive, and the pending counts are true. -/
def Store.Sound (t : Store) : Prop := t.consecutive ∧ t.countsTrue

theorem Store.countPending_eq {t : Store} (consecutive : t.consecutive) {cursor : Seq}
    (within : t.passed cursor ≤ t.records.length) (filter : ClassSet) :
    t.countPending cursor filter = ((t.records.drop (t.passed cursor)).filter filter.reads).length := by
  rw [Store.countPending, t.fromCursor_eq consecutive within]

theorem Store.sound_iff (t : Store) : t.Sound ↔ t.consecutive ∧ ∀ p, t.Agrees (t.reading.get p) := by
  refine and_congr_right fun consecutive => forall_congr' fun p => and_congr_right fun within => ?_
  rw [← t.countPending_eq consecutive within, Store.countPending, Store.fromCursor, List.filter_filter]
  simp only [Bool.and_comm]
  rfl

/-- A change of one port's reading state keeps the store sound, if what it becomes agrees with the records. -/
theorem Store.Sound.set {t : Store} (h : t.Sound) (p : Port) {r : Reading} (agrees : t.Agrees r) :
    { t with reading := t.reading.set p r }.Sound := by
  obtain ⟨consecutive, counts⟩ := t.sound_iff.mp h
  refine (Store.sound_iff _).mpr ⟨consecutive, fun q => ?_⟩
  dsimp only
  rw [PerPort.get_set]
  split
  · exact agrees
  · exact counts q

/-- R129, R130: an eviction keeps the store sound. -/
theorem Store.Sound.evicted {t : Store} (h : t.Sound) {x : Record} {rest : List Record} (records : t.records = x :: rest) :
    { t with
      records := rest, oldestSeq := t.oldestSeq + 1, reading := .ofFn fun p => (t.reading.get p).evicting x }.Sound := by
  obtain ⟨consecutive, counts⟩ := t.sound_iff.mp h
  obtain ⟨bound, next, seqs⟩ := consecutive
  rw [records] at bound next
  have seqs : Consecutive t.oldestSeq (x :: rest) := by rw [← records]; exact seqs
  refine (Store.sound_iff _).mpr ⟨⟨(Nat.le_succ _).trans bound, next.trans (seq_add_succ _ _), seqs.tail⟩, fun p => ?_⟩
  dsimp only
  rw [PerPort.get_ofFn]
  obtain ⟨within, pending⟩ := counts p
  generalize t.reading.get p = r at within pending
  rw [records] at within pending
  by_cases stands : r.cursor = x.seq
  · have none_passed : t.passed r.cursor = 0 := by rw [Store.passed, stands, seqs.head, sub_self]; rfl
    rw [none_passed, List.drop_zero, List.filter_cons] at pending
    have none_passed_then : (x.seq + 1 - (t.oldestSeq + 1)).toNat = 0 := by rw [seqs.head, sub_self]; rfl
    have left : (r.evicting x).pending = (rest.filter r.filter.reads).length := by
      cases reads : r.filter.reads x <;> simp [Reading.evicting, Reading.loses, stands, reads, pending]
    rw [Store.Agrees, Store.passed, show (r.evicting x).cursor = x.seq + 1 from if_pos stands, none_passed_then]
    exact ⟨Nat.zero_le _, left⟩
  · have kept : r.evicting x = r := by simp [Reading.evicting, Reading.loses, stands]
    have behind : r.cursor ≠ t.oldestSeq := seqs.head ▸ stands
    have passed : t.passed r.cursor = (r.cursor - (t.oldestSeq + 1)).toNat + 1 := by
      rw [distance_succ behind, Nat.sub_add_cancel (distance_pos behind)]
      rfl
    rw [passed] at within pending
    rw [kept]
    exact ⟨Nat.le_of_succ_le_succ within, pending⟩

/-- R127, R129: an append to a store with room keeps it sound. -/
theorem Store.Sound.appended {t : Store} (h : t.Sound) (room : t.records.length < 2048) {x : Record}
    (seq : x.seq = t.nextSeq) :
    { t with
      records := t.records ++ [x], nextSeq := t.nextSeq + 1
      reading := .ofFn fun p => (t.reading.get p).counting x }.Sound := by
  obtain ⟨⟨bound, next, seqs⟩, counts⟩ := t.sound_iff.mp h
  refine (Store.sound_iff _).mpr ⟨⟨?_, ?_, Consecutive.append seqs (seq.trans next)⟩, fun p => ?_⟩
  · simpa using room
  · rw [List.length_append, List.length_singleton, next, seq_add_succ]
    ring
  · obtain ⟨within, pending⟩ := counts p
    dsimp only
    rw [PerPort.get_ofFn]
    generalize t.reading.get p = r at within pending
    refine ⟨within.trans (by simp), ?_⟩
    change (r.counting x).pending = (((t.records ++ [x]).drop (t.passed r.cursor)).filter r.filter.reads).length
    rw [List.drop_append_of_le_length within, List.filter_append, List.length_append, ← pending]
    cases reads : r.filter.reads x <;> simp [Reading.counting, reads]

/-- R139: an empty store at a reset. -/
theorem Store.atReset_sound : Store.atReset.Sound :=
  (Store.sound_iff _).mpr ⟨⟨Nat.zero_le _, rfl, nofun⟩, fun p => by cases p <;> exact ⟨Nat.zero_le _, rfl⟩⟩

/-- R138: a cursor at the next sequence has passed every record. -/
theorem Store.agrees_atCursor {t : Store} (consecutive : t.consecutive) : t.Agrees (Reading.atCursor t.nextSeq) := by
  obtain ⟨bound, next, -⟩ := consecutive
  have passed : t.passed t.nextSeq = t.records.length := by
    rw [Store.passed, next, add_sub_cancel_left, BitVec.toNat_ofNat, Nat.mod_eq_of_lt (by omega)]
  refine ⟨passed.le, ?_⟩
  change 0 = ((t.records.drop (t.passed t.nextSeq)).filter _).length
  rw [passed, List.drop_length]
  rfl

/-! ### Reading (R135) -/

/-- R135: the records of a list that a read examines and those it leaves: what it places are the records of its filter among
those examined, at most n; it leaves records only when it has placed n; and it examines none behind the n-th placed. -/
theorem examine_spec (filter : ClassSet) (n : Nat) (records : List Record) (cursor : Seq)
    (seqs : Consecutive cursor records) :
    ∃ examined left,
      records = examined ++ left
        ∧ examine filter n records cursor
          = (examined.filter filter.reads, cursor + BitVec.ofNat 32 examined.length)
        ∧ (examined.filter filter.reads).length ≤ n
        ∧ (left ≠ [] → (examined.filter filter.reads).length = n)
        ∧ ((examined.filter filter.reads).length = n → ∀ x, examined.getLast? = some x → filter.reads x = true) := by
  fun_induction examine filter n records cursor with
  | case1 records cursor => exact ⟨[], records, by simp⟩
  | case2 n cursor => exact ⟨[], [], by simp⟩
  | case3 n x rest cursor reads r ih =>
    obtain ⟨examined, left, rfl, result, bound, stops, last⟩ := ih (seqs.head ▸ seqs.tail)
    have placed : (x :: examined).filter filter.reads = x :: examined.filter filter.reads := List.filter_cons_of_pos reads
    refine ⟨x :: examined, left, rfl, ?_, ?_, ?_, ?_⟩ <;> rw [placed]
    · rw [show r = _ from result, seqs.head, List.length_cons, seq_add_succ]
    · exact Nat.succ_le_succ bound
    · exact fun some_left => congrArg Nat.succ (stops some_left)
    · intro full y last_y
      cases examined with
      | nil => cases last_y; exact reads
      | cons z more => exact last (Nat.succ.inj full) y last_y
  | case4 n x rest cursor skips ih =>
    obtain ⟨examined, left, rfl, result, bound, stops, last⟩ := ih (seqs.head ▸ seqs.tail)
    have placed : (x :: examined).filter filter.reads = examined.filter filter.reads := List.filter_cons_of_neg skips
    refine ⟨x :: examined, left, rfl, ?_, ?_, ?_, ?_⟩ <;> rw [placed]
    · rw [result, seqs.head, List.length_cons, seq_add_succ]
    · exact bound
    · exact stops
    · intro full y last_y
      cases examined with
      | nil => cases full
      | cons z more => exact last full y last_y

/-- R135: a read from a cursor of a sound store: the records it has passed, those it examines, and those it leaves. -/
theorem Store.examine_fromCursor {t : Store} (consecutive : t.consecutive) {r : Reading} (agrees : t.Agrees r) (n : Nat) :
    ∃ examined left,
      t.records = t.records.take (t.passed r.cursor) ++ examined ++ left
        ∧ examine r.filter n (t.fromCursor r.cursor) r.cursor
          = (examined.filter r.filter.reads, r.cursor + BitVec.ofNat 32 examined.length)
        ∧ (examined.filter r.filter.reads).length ≤ n
        ∧ (left ≠ [] → (examined.filter r.filter.reads).length = n)
        ∧ ((examined.filter r.filter.reads).length = n →
          ∀ x, examined.getLast? = some x → r.filter.reads x = true)
        ∧ r.pending = (examined.filter r.filter.reads).length + (left.filter r.filter.reads).length
        ∧ t.passed (r.cursor + BitVec.ofNat 32 examined.length) = t.passed r.cursor + examined.length := by
  obtain ⟨within, pending⟩ := agrees
  obtain ⟨bound, -, seqs⟩ := id consecutive
  have from_cursor : Consecutive r.cursor (t.records.drop (t.passed r.cursor)) := by
    have dropped := Consecutive.drop seqs (t.passed r.cursor)
    rwa [Store.passed, seq_add_toNat_sub] at dropped
  obtain ⟨examined, left, split, result, placed, stops, last⟩ := examine_spec r.filter n _ _ from_cursor
  have whole : t.records = t.records.take (t.passed r.cursor) ++ examined ++ left := by
    rw [List.append_assoc, ← split, List.take_append_drop]
  have length := congrArg List.length whole
  rw [List.length_append, List.length_append, List.length_take_of_le within] at length
  refine ⟨examined, left, whole, ?_, placed, stops, last, ?_, ?_⟩
  · rw [t.fromCursor_eq consecutive within, result]
  · rw [pending, split, List.filter_append, List.length_append]
  · have place : r.cursor = t.oldestSeq + BitVec.ofNat 32 (t.passed r.cursor) := (seq_add_toNat_sub _ _).symm
    rw [Store.passed, place, add_assoc, ← BitVec.ofNat_add, add_sub_cancel_left, BitVec.toNat_ofNat, ← place,
      Nat.mod_eq_of_lt (by omega)]

/-- R134, R135: what a read makes of the reading state agrees with the store. -/
theorem Store.Agrees.read {t : Store} (consecutive : t.consecutive) {r : Reading} (agrees : t.Agrees r) (n : Nat) :
    let read := examine r.filter n (t.fromCursor r.cursor) r.cursor
    t.Agrees { r with cursor := read.2, pending := r.pending - read.1.length, lost := 0 } := by
  obtain ⟨examined, left, whole, result, -, -, -, pending, passed⟩ := t.examine_fromCursor consecutive agrees n
  have length := congrArg List.length whole
  rw [List.length_append, List.length_append, List.length_take_of_le agrees.1] at length
  have behind : t.records.drop (t.passed r.cursor + examined.length) = left := by
    conv_lhs => rw [whole]
    exact List.drop_left' (by rw [List.length_append, List.length_take_of_le agrees.1])
  rw [result, Store.Agrees]
  dsimp only
  rw [passed, behind, pending]
  exact ⟨by omega, Nat.add_sub_cancel_left ..⟩

end Sys2Proof.Machine
end

section
/-! SUPPORT. The part of the store that R127, R130 and R134 relate, what leaves it as it is, and what the commands of the record
store do to it. -/

namespace Sys2Proof.Machine

/-- The store without what the arbiter alone looks at: the records that wait, and the rotation. -/
def State.ledger (s : State) : Store := { s.store with rotation := [], waiting := [] }

theorem State.ledger_sound_iff (s : State) : s.ledger.Sound ↔ s.store.consecutive ∧ s.store.countsTrue := Iff.rfl

/-! ### What leaves the ledger as it is -/

theorem State.ledger_of_adding {s t : State} (adds : ∃ made, t.store = s.store.adding made) : t.ledger = s.ledger := by
  obtain ⟨made, store⟩ := adds
  rw [State.ledger, store]
  rfl

theorem State.ledger_of_store {s t : State} (same : t.store = s.store) : t.ledger = s.ledger := by
  rw [State.ledger, same, State.ledger]

section
variable (s : State)

@[simp] theorem State.ledger_modEng (side : Side) (f : Engine → Engine) : (s.modEng side f).ledger = s.ledger := rfl
@[simp] theorem State.ledger_modLanes (f : LaneMap → LaneMap) : (s.modLanes f).ledger = s.ledger := rfl
@[simp] theorem State.ledger_offerAll (w : Writer) (made : List Made) : (s.offerAll w made).ledger = s.ledger := by
  rw [State.offerAll_eq]
  rfl
@[simp] theorem State.ledger_inStep (step : EventStep) (f : State → State) :
    (s.inStep step f).ledger = (f s).ledger := rfl
@[simp] theorem State.ledger_answerOk (p : Port) : (s.answerOk p).ledger = s.ledger := rfl
@[simp] theorem State.ledger_markTroubleRecord (side : Option Side) (lane : Option LaneId) (position : Position)
    (content : Content) : (s.markTroubleRecord side lane position content).ledger = s.ledger := rfl
@[simp] theorem State.ledger_changeRunState (new : RunState) (port : Option Port) :
    (s.changeRunState new port).ledger = s.ledger := rfl

theorem State.ledger_ite {s a b : State} {c : Prop} [Decidable c] (yes : a.ledger = s.ledger) (no : b.ledger = s.ledger) :
    (if c then a else b).ledger = s.ledger := by
  split
  · exact yes
  · exact no

/-- What every item of a list leaves as it is, the list leaves as it is. -/
theorem State.ledger_foldl {α : Type} (f : State → α → State) (kept : ∀ s x, (f s x).ledger = s.ledger) (l : List α) :
    (l.foldl f s).ledger = s.ledger := by
  induction l generalizing s with
  | nil => rfl
  | cons x rest ih => rw [List.foldl_cons, ih, kept]

/-! ### Heads and assemblers -/

@[simp] theorem State.ledger_setHeadState (h : HeadId) (new : HeadState) (cause : HeadCause) :
    (s.setHeadState h new cause).ledger = s.ledger := by
  simp only [State.setHeadState]
  split <;> rfl

@[simp] theorem State.ledger_startHead (h : HeadId) : (s.startHead h).ledger = s.ledger := by
  unfold State.startHead
  split
  · exact State.ledger_setHeadState ..
  · rfl
  · rfl

@[simp] theorem State.ledger_setHead (p : Port) (h : HeadId) (b : SetHeadBody) : (s.setHead p h b).ledger = s.ledger := by
  unfold State.setHead
  split
  · rfl
  · split
    · rfl
    · split_ifs
      · rfl
      · rfl
      · rw [State.ledger_answerOk, State.applyEnable_eq, State.ledger_setHeadState]
        rfl

theorem State.ledger_addContribution (side : Side) (line : LineNo) (h : HeadId) (c : Contribution) :
    (s.addContribution side line h c).ledger = s.ledger :=
  State.ledger_of_adding (State.closeReady_frame _ side).store

theorem State.ledger_accept (h : HeadId) (line : LineNo) (c : Contribution) : (s.accept h line c).ledger = s.ledger := by
  rw [State.accept_eq, State.ledger_addContribution]
  split
  · exact State.ledger_setHeadState ..
  · rfl

theorem State.ledger_takePacket (h : HeadId) (bytes : List Byte) (f : Nat → List Byte → Contribution) :
    (s.takePacket h bytes f).ledger = s.ledger := by
  have header (s : State) (hd : PacketHeader) (g : Nat → Contribution) : (s.takeHeader h hd g).ledger = s.ledger := by
    unfold State.takeHeader
    split
    · rfl
    · split
      · exact s.ledger_accept ..
      all_goals rfl
  unfold State.takePacket
  split
  · split
    · split
      · exact header ..
      · exact header (s.count h _) ..
      · rfl
    · rfl
  · rfl

theorem State.ledger_waitExpiry (side : Side) (line : LineNo) : (s.waitExpiry side line).ledger = s.ledger := by
  unfold State.waitExpiry
  split
  · rfl
  · split
    · rfl
    · exact State.ledger_of_adding (State.closeReady_frame _ side).store

/-! ### The position unit and the mark scheduler -/

theorem State.ledger_fireAt (web : Position) : (s.fireAt web).ledger = s.ledger := by
  obtain ⟨markers, made, fired, -⟩ := s.fireAt_frame web
  rw [fired]
  rfl

theorem State.ledger_forwardCount : s.forwardCount.ledger = s.ledger := by
  obtain ⟨u, made, v, -, frame, counted⟩ := s.forwardCount_frame
  rw [counted, State.ledger_fireAt, State.ledger_of_adding frame.store]
  rfl

theorem State.ledger_backwardCount : s.backwardCount.ledger = s.ledger := by
  simp only [State.backwardCount]
  split
  · exact State.ledger_foldl _ _ (fun s _ => s.ledger_markTroubleRecord ..) _
  · rfl

theorem State.ledger_closeSkipped : s.closeSkipped.ledger = s.ledger := by
  unfold State.closeSkipped
  split <;> rfl

theorem State.ledger_handOnSplice (capture arrival : Position) : (s.handOnSplice capture arrival).ledger = s.ledger := by
  rw [State.handOnSplice_eq]
  simp only [State.offerArrival_eq]
  rfl

@[simp] theorem State.ledger_considerRecord (r : Record) (flag : Option Bool) :
    (s.considerRecord r flag).ledger = s.ledger := by
  rcases s.considerRecord_cases r flag with ⟨orders, same⟩ | ⟨side, lane, position, content, same⟩ <;> rw [same] <;> rfl

theorem State.ledger_place (c : Candidate) : (s.place c).1.ledger = s.ledger := by
  simp only [State.place]
  split_ifs <;> rfl

/-! ### The lane map unit and the engines -/

@[simp] theorem State.ledger_changeOverIf (side : Side) (now : Bool) : (s.changeOverIf side now).ledger = s.ledger := by
  unfold State.changeOverIf
  split
  · split
    · simp only [State.changeOverAtOnce, State.ledger_offerAll]
      rfl
    · rfl
  · rfl

@[simp] theorem State.ledger_completeSwitch : s.completeSwitch.ledger = s.ledger := by
  unfold State.completeSwitch
  split
  · split <;> rfl
  · rfl

@[simp] theorem State.ledger_changeOverHeadless : s.changeOverHeadless.ledger = s.ledger := by
  simp [State.changeOverHeadless]

theorem State.ledger_requestSwitch (w : SwitchRecord) : (s.requestSwitch w).ledger = s.ledger := by
  simp only [State.requestSwitch]
  split <;> simp

theorem State.ledger_setLane (p : Port) (bank : Bank) (side : Side) (lane : LaneId) (b : SetLaneBody) :
    (s.setLane p bank side lane b).ledger = s.ledger := by
  unfold State.setLane
  split
  · rfl
  · split
    · rfl
    · simp only
      split_ifs <;> rfl

theorem State.ledger_runOperation (side : Side) (line : LineEntry) : (s.runOperation side line).ledger = s.ledger := by
  obtain ⟨e, l, settled, -⟩ := s.stageChangeover_changeover side line.position
  rw [State.runOperation_eq, settled]
  rfl

theorem State.ledger_reachEngine (p : Port) (side : Side) (c : EngineCommand) (body : List Byte) :
    (s.reachEngine p side c body).ledger = s.ledger := by
  unfold State.reachEngine
  split
  · rfl
  · obtain ⟨e, made, r, taken, -⟩ := s.takeEngineCommand_taken p side c body
    rw [taken]
    rfl

theorem State.ledger_releaseLine (side : Side) : (s.releaseLine side).ledger = s.ledger :=
  State.ledger_of_adding (State.foldl_takeHeld_taken side (s.eng.get side).held (s.released side)).store

theorem State.ledger_setSide (p : Port) (side : Side) (width : Nat) : (s.setSide p side width).ledger = s.ledger := by
  unfold State.setSide
  split_ifs <;> rfl

/-! ### Run control -/

theorem State.ledger_startRun (p : Port) : (s.startRun p).ledger = s.ledger := by
  have sync (u : State) : u.syncTrigger.ledger = u.ledger :=
    State.ledger_of_adding (State.openSlots_frame (u.modPos _) _ _).store
  rw [State.startRun, State.ledger_answerOk, State.ledger_inStep, State.ledger_changeRunState, sync, State.ledger_inStep]
  simp only [State.prepareStart, State.ledger_changeOverHeadless, State.ledger_modEng]
  exact s.ledger_foldl _ State.ledger_startHead _

theorem State.ledger_stopRun (p : Port) : (s.stopRun p).ledger = s.ledger := by
  rw [State.stopRun, State.ledger_answerOk, State.ledger_inStep, State.ledger_changeRunState, State.ledger_inStep,
    State.ledger_closeSkipped]

theorem State.ledger_closeCoverage (side : Side) : (s.closeCoverage side).ledger = s.ledger := by
  have run (u : State) (h : HeadId) : (u.closeBlindRun side h).ledger = u.ledger := by
    rw [State.closeBlindRun_eq]
    rfl
  rw [State.closeCoverage, State.ledger_foldl _ _ run, State.closeDropRun_eq]
  rfl

theorem State.ledger_stopTeach (side : Side) : (s.stopTeach side).ledger = s.ledger := by
  unfold State.stopTeach
  split <;> simp

theorem State.ledger_endDrain : s.endDrain.ledger = s.ledger := by
  simp only [State.endDrain, State.closingSteps, State.bothSides, State.truncateBlobs, State.stopStreaks,
    State.dropCandidates, State.clearBins, State.ledger_inStep, State.ledger_changeRunState, State.ledger_modEng,
    State.ledger_offerAll, State.ledger_closeCoverage, State.ledger_stopTeach]

end

/-! ### The record store (R128 to R138) -/

theorem State.evictIfFull_keeps {s : State} (sound : s.ledger.Sound) :
    s.evictIfFull.ledger.Sound ∧ s.evictIfFull.store.records.length < 2048 := by
  rcases s.evictIfFull_cases with ⟨room, same⟩ | ⟨x, rest, records, -, evicted⟩
  · rw [same]
    exact ⟨sound, room⟩
  · obtain ⟨⟨bound, -⟩, -⟩ := id sound
    have bound : s.store.records.length ≤ 2048 := bound
    rw [records] at bound
    rw [evicted]
    exact ⟨Store.Sound.evicted sound records, bound⟩

theorem State.append_keeps {s : State} (o : Offer) (sound : s.ledger.Sound) : (s.append o).ledger.Sound := by
  obtain ⟨evicted, room⟩ := State.evictIfFull_keeps sound
  rw [State.append_eq, State.ledger_considerRecord]
  exact Store.Sound.appended evicted room rfl

@[simp] theorem State.ledger_frontTaken (s : State) (w : Writer) : (s.frontTaken w).ledger = s.ledger := by
  unfold State.frontTaken State.takeFront
  split
  · rfl
  · split <;> rfl

theorem State.arbitrate_keeps {s : State} (sound : s.ledger.Sound) : s.arbitrate.ledger.Sound := by
  unfold State.arbitrate
  split
  · exact sound
  case h_2 w _ =>
    split
    · exact sound
    · exact State.append_keeps _ ((s.ledger_frontTaken w).symm ▸ sound)

theorem State.agrees_reading {s : State} (sound : s.ledger.Sound) (p : Port) :
    s.ledger.Agrees (s.store.reading.get p) := (s.ledger.sound_iff.mp sound).2 p

theorem State.readRecords_keeps {s : State} (p : Port) (maximum : Nat) (sound : s.ledger.Sound) :
    (s.readRecords p maximum).ledger.Sound :=
  Store.Sound.set sound p (Store.Agrees.read sound.1 (State.agrees_reading sound p) (clampMaximum maximum))

/-- R137, R159: SET_FILTER changes the port's reading state and its stale timer. -/
theorem State.setFilter_eq (s : State) (p : Port) (b : SetFilterBody) :
    s.setFilter p b
      = let r := s.store.reading.get p
        let count := s.store.countPending r.cursor b.classes
        s.setPort p
          { r with filter := b.classes, trigger := clampTrigger b.trigger, staleTime := b.staleTime, pending := count }
          { s.ports.get p with
            staleTimer :=
              if b.staleTime = 0 then none
              else staleAfter s.now b.staleTime r.pending count (s.ports.get p).staleTimer } := by
  by_cases off : b.staleTime = 0 <;>
  simp [State.setFilter, State.setPending, State.modReading, State.modPort, State.setPort, State.reading, off,
    Store.countPending, Store.fromCursor]

theorem State.setFilter_keeps {s : State} (p : Port) (b : SetFilterBody) (sound : s.ledger.Sound) :
    (s.setFilter p b).ledger.Sound := by
  rw [s.setFilter_eq p b]
  obtain ⟨within, -⟩ := State.agrees_reading sound p
  exact Store.Sound.set sound p ⟨within, Store.countPending_eq (t := s.ledger) sound.1 within _⟩

theorem State.resetPort_keeps {s : State} (p : Port) (sound : s.ledger.Sound) : (s.resetPort p).ledger.Sound :=
  Store.Sound.set sound p (Store.agrees_atCursor sound.1)

end Sys2Proof.Machine
end

section
/-! SUPPORT. Every command and every step keeps the sequence numbers consecutive and the pending counts true. -/

namespace Sys2Proof.Machine

/-- What a command keeps of the store: consecutive sequence numbers and true pending counts (R127, R130, R134). -/
def State.KeepsLedger (s t : State) : Prop := s.ledger.Sound → t.ledger.Sound

theorem State.KeepsLedger.of_eq {s t : State} (same : t.ledger = s.ledger) : s.KeepsLedger t := fun sound => same ▸ sound

theorem State.KeepsLedger.of_store {s t : State} (same : t.store = s.store) : s.KeepsLedger t :=
  .of_eq (State.ledger_of_store same)

/-! ### Port commands -/

theorem takeFrame_keepsLedger (s : State) (p : Port) (len : Nat) (act : State → State)
    (acts : ∀ u : State, u.KeepsLedger (act u)) : s.KeepsLedger (takeFrame p len act s) := by
  simp only [takeFrame]
  split_ifs
  · exact .of_store rfl
  · exact .of_store rfl
  · exact acts ((s.shiftFiller p (2 + len)).beginCommand p)

theorem takeCommand_keepsLedger {β : Type} (s : State) (p : Port) (body : List Byte) (read : List Byte → Option β)
    (act : β → State → State) (acts : ∀ b (u : State), u.KeepsLedger (act b u)) :
    s.KeepsLedger (takeCommand p body read act s) := by
  refine takeFrame_keepsLedger s p _ _ fun u => ?_
  split
  · exact .of_store rfl
  · exact acts _ u

/-- A command that leaves the ledger as it is. -/
theorem takeCommand_keepsLedger_of_eq {β : Type} (s : State) (p : Port) (body : List Byte)
    (read : List Byte → Option β) (act : β → State → State) (acts : ∀ b (u : State), (act b u).ledger = u.ledger) :
    s.KeepsLedger (takeCommand p body read act s) :=
  takeCommand_keepsLedger s p body read act fun b u => .of_eq (acts b u)

/-! ### Every command -/

/-- What every command keeps. -/
theorem exec_keepsLedger (c : Instr) (s : State) : ∃ t, exec c s = .next t ∧ s.KeepsLedger t := by
  cases c with
  | powerOn a b => exact ⟨_, rfl, fun _ => Store.atReset_sound⟩
  | initEnd =>
    refine ⟨_, rfl, .of_eq ?_⟩
    split <;> rfl
  | resetPin a b =>
    refine ⟨_, rfl, fun _ => ?_⟩
    split <;> exact Store.atReset_sound
  | encoderEdge a b =>
    refine ⟨_, rfl, .of_eq ?_⟩
    split
    · rfl
    · exact (s.holding a b).ledger_forwardCount
    · exact (s.holding a b).ledger_backwardCount
    · unfold State.illegalTransition
      split <;> rfl
  | spliceEdge => exact ⟨_, rfl, .of_eq (State.ledger_ite (State.ledger_handOnSplice ..) rfl)⟩
  | linkUp h =>
    refine ⟨_, rfl, .of_eq ?_⟩
    split
    · rfl
    · simp only
      split
      · exact State.ledger_setHeadState ..
      · rfl
  | linkDown h =>
    refine ⟨_, rfl, .of_eq ?_⟩
    split
    · simp only
      split
      · exact State.ledger_setHeadState ..
      · rfl
    · rfl
  | completePacket h bytes => exact ⟨_, rfl, .of_eq (s.ledger_takePacket ..)⟩
  | abortedPacket h bytes => exact ⟨_, rfl, .of_eq (s.ledger_takePacket ..)⟩
  | waitExpiry side line => exact ⟨_, rfl, .of_eq (s.ledger_waitExpiry side line)⟩
  | lineTake side =>
    refine ⟨_, rfl, .of_eq ?_⟩
    split
    · exact State.ledger_runOperation ..
    · rfl
  | lineOperationEnd side =>
    refine ⟨_, rfl, .of_eq ?_⟩
    split
    · exact s.ledger_releaseLine side
    · rfl
  | recordAppend => exact ⟨_, rfl, State.arbitrate_keeps⟩
  | pulseEnd k =>
    refine ⟨_, rfl, .of_store ?_⟩
    split <;> rfl
  | mcfEdge k => exact ⟨_, rfl, .of_store rfl⟩
  | confirmWindowExpiry k =>
    refine ⟨_, rfl, .of_eq ?_⟩
    split <;> rfl
  | staleTimerExpiry p =>
    refine ⟨_, rfl, .of_store ?_⟩
    split <;> rfl
  | drainEnd =>
    refine ⟨_, rfl, .of_eq ?_⟩
    split
    · exact s.ledger_endDrain
    · rfl
  | setHead p body =>
    refine ⟨_, rfl, takeCommand_keepsLedger_of_eq s p body _ _ fun b u => ?_⟩
    split
    · rfl
    · exact u.ledger_setHead ..
  | getHead p body =>
    refine ⟨_, rfl, takeCommand_keepsLedger_of_eq s p body _ _ fun b u => ?_⟩
    split <;> rfl
  | setLine p body =>
    refine ⟨_, rfl, takeCommand_keepsLedger_of_eq s p body _ _ fun b u => ?_⟩
    split_ifs <;> rfl
  | setCal p body =>
    refine ⟨_, rfl, takeCommand_keepsLedger_of_eq s p body _ _ fun b u => ?_⟩
    split
    · rfl
    · exact u.ledger_reachEngine ..
  | teach p body =>
    refine ⟨_, rfl, takeCommand_keepsLedger_of_eq s p body _ _ fun b u => ?_⟩
    split
    · rfl
    · exact u.ledger_reachEngine ..
  | teachAbort p body =>
    refine ⟨_, rfl, takeCommand_keepsLedger_of_eq s p body _ _ fun b u => ?_⟩
    split
    · rfl
    · exact u.ledger_reachEngine ..
  | setSide p body =>
    refine ⟨_, rfl, takeCommand_keepsLedger_of_eq s p body _ _ fun b u => ?_⟩
    split
    · rfl
    · exact u.ledger_setSide ..
  | setRecipe p body =>
    refine ⟨_, rfl, takeCommand_keepsLedger_of_eq s p body _ _ fun b u => ?_⟩
    split
    · rfl
    · split <;> rfl
  | setLane p body =>
    refine ⟨_, rfl, takeCommand_keepsLedger_of_eq s p body _ _ fun b u => ?_⟩
    split
    · exact u.ledger_setLane ..
    · rfl
  | switchBank p body =>
    refine ⟨_, rfl, takeCommand_keepsLedger_of_eq s p body _ _ fun b u => ?_⟩
    split
    · rfl
    · split_ifs
      · rfl
      · rfl
      · exact u.ledger_requestSwitch _
  | cancelSwitch p body =>
    refine ⟨_, rfl, takeCommand_keepsLedger_of_eq s p body _ _ fun b u => ?_⟩
    split <;> rfl
  | setMarker p body =>
    refine ⟨_, rfl, takeCommand_keepsLedger_of_eq s p body _ _ fun b u => ?_⟩
    split
    · split <;> rfl
    · rfl
  | mark p body =>
    refine ⟨_, rfl, takeCommand_keepsLedger_of_eq s p body _ _ fun b u => ?_⟩
    split
    · rfl
    · split_ifs
      · rfl
      · exact u.ledger_place _
  | getMarker p body =>
    refine ⟨_, rfl, takeCommand_keepsLedger_of_eq s p body _ _ fun b u => ?_⟩
    split <;> rfl
  | readRecords p body =>
    exact ⟨_, rfl, takeCommand_keepsLedger s p body _ _ fun b u => u.readRecords_keeps p b.toNat⟩
  | setFilter p body =>
    refine ⟨_, rfl, takeCommand_keepsLedger s p body _ _ fun b u => ?_⟩
    split
    · exact .of_store rfl
    · exact u.setFilter_keeps p b
  | start p body =>
    refine ⟨_, rfl, takeCommand_keepsLedger_of_eq s p body _ _ fun b u => ?_⟩
    split_ifs
    · rfl
    · rfl
    · rfl
    · exact u.ledger_startRun p
  | stop p body =>
    refine ⟨_, rfl, takeCommand_keepsLedger_of_eq s p body _ _ fun b u => ?_⟩
    split
    · rfl
    · exact u.ledger_stopRun p
  | setNotices p body => exact ⟨_, rfl, takeCommand_keepsLedger_of_eq s p body _ _ fun b u => rfl⟩
  | getNotice p body => exact ⟨_, rfl, takeCommand_keepsLedger_of_eq s p body _ _ fun b u => rfl⟩
  | getStatus p body => exact ⟨_, rfl, takeCommand_keepsLedger_of_eq s p body _ _ fun b u => rfl⟩
  | portReset p body => exact ⟨_, rfl, takeCommand_keepsLedger s p body _ _ fun b u => u.resetPort_keeps p⟩
  | fetch p n =>
    refine ⟨_, rfl, .of_store ?_⟩
    unfold State.fetch
    split
    · rfl
    · split <;> rfl
  | unknownCommand p code body =>
    refine ⟨_, rfl, ?_⟩
    split
    · exact takeFrame_keepsLedger s p _ _ fun u => .of_store rfl
    · exact .of_store rfl
  | badFrame p code rest =>
    refine ⟨_, rfl, .of_store ?_⟩
    split
    · simp only
      split <;> rfl
    · rfl

/-- What every step keeps. -/
theorem step_keepsLedger {s t : State} (run : step s = .next t) : s.KeepsLedger t := by
  cases pending : s.pending with
  | nil =>
    simp only [step, pending] at run
    cases run
    exact .of_store rfl
  | cons c rest =>
    simp only [step, pending] at run
    obtain ⟨u, completes, keeps⟩ := exec_keepsLedger c { s with pending := rest }
    rw [completes] at run
    cases run
    exact keeps

end Sys2Proof.Machine

open Sys2Proof Sys2Proof.Machine

/-- Settles O56: every command keeps both of the store without the records that wait and the rotation. -/
theorem stepKeepsStoreConsecutive : Obligations.StepKeepsStoreConsecutive := by
  intro s t consecutive counts run
  have sound : s.ledger.Sound := s.ledger_sound_iff.mpr ⟨consecutive, counts⟩
  exact t.ledger_sound_iff.mp (step_keepsLedger run sound)
end

section
/-! SUPPORT. SET_FILTER and PORT_RESET (R137, R138, R159): what each makes of the issuing port, and the class set of a SET_FILTER
body. -/

namespace Sys2Proof.Machine

/-- R155: a port command changes the port's reading state and the port, and is answered. -/
theorem State.setPort_begun_respond (s : State) (p : Port) (len : Nat) (r : Reading) (c : PortState)
    (response : Response) :
    ((s.begun p len).setPort p r c).respond p response
      = { s with
          store := { s.store with reading := s.store.reading.set p r }
          ports := s.ports.set p { c with phase := .responseHeld, held := some response } } := by
  simp [State.begun, State.setPort, State.respond, State.modPort]

theorem State.begun_port (s : State) (p : Port) (len : Nat) :
    (s.begun p len).ports.get p
      = { s.ports.get p with
          dataOut := s.statusOut p :: List.replicate (len + 2) 0x00, shownStatus := none, phase := .executing
          held := none } := PerPort.get_set_same ..

/-! ### PORT_RESET (R138, R162) -/

/-- R138, R162: what PORT_RESET clears of a port. -/
def PortState.cleared (c : PortState) : PortState :=
  { c with
    raised := RaisedNotices.empty, faultCause := none, faultCount := 0, enables := NoticeSet.empty, staleTimer := none }

theorem State.resetPort_eq (s : State) (p : Port) :
    s.resetPort p = s.setPort p (Reading.atCursor s.store.nextSeq) (s.ports.get p).cleared := rfl

/-- A port that enables no notice does not assert ATTN. -/
theorem State.attn_eq_false {s : State} {p : Port} (disabled : (s.ports.get p).enables = NoticeSet.empty) :
    s.attn p = false := by
  simp [State.attn, State.pendingEnabled, disabled, NoticeSet.inter, NoticeSet.empty, NoticeSet.highest]

/-! ### SET_FILTER (R137, R159, R171) -/

theorem readClassSet_isEmpty (f : Byte) : (readClassSet f).isEmpty = true ↔ f.toNat % 32 = 0 := by
  revert f
  decide

/-- R159: the stale timer at a SET_FILTER. -/
theorem staleAfter_setFilter (now staleTime former count : Nat) (timer : Option Nat) :
    (if staleTime = 0 then none else staleAfter now staleTime former count timer)
      = if staleTime = 0 ∨ count = 0 then none else if former = 0 then some (now + 1000 * staleTime) else timer := by
  by_cases off : staleTime = 0 <;> simp [staleAfter, off]

end Sys2Proof.Machine

open Sys2Proof Sys2Proof.Machine

/-- Settles O43: the port's new reading state and what is cleared of the port, answered. -/
theorem portResetClearsIssuingPort : Obligations.PortResetClearsIssuingPort := by
  intro s p taken
  have answered : exec (.portReset p []) s = .next (((s.begun p 0).resetPort p).answerOk p) :=
    congrArg Host.Outcome.next (takeCommand_taken _ _ _ _ _ taken)
  rw [State.resetPort_eq, State.answerOk, State.setPort_begun_respond, State.begun_port] at answered
  exact ⟨_, answered, State.attn_eq_false (by rw [PerPort.get_set_same]; rfl), rfl⟩

/-- Settles O42: a filter of no class is refused; any other recounts the records from the cursor on. -/
theorem setFilterRecountsPending : Obligations.SetFilterRecountsPending := by
  intro s p f t1 t0 s1 s0 taken body r classes count staleTime answered
  have acts : exec (.setFilter p body) s
      = .next
        (if (readClassSet f).isEmpty then (s.begun p 5).refuse p .range
        else
          ((s.begun p 5).setFilter p
            { classes := readClassSet f, trigger := be16 t1 t0, staleTime := be16 s1 s0 }).answerOk p) :=
    congrArg Host.Outcome.next (takeCommand_taken _ _ _ _ _ taken)
  refine ⟨fun none_named => ?_, fun some_named => ?_⟩
  · rw [acts, if_pos ((readClassSet_isEmpty f).mpr none_named), State.refuse_begun]
  · rw [acts, if_neg (mt (readClassSet_isEmpty f).mp some_named), State.setFilter_eq]
    dsimp only
    have counted : (s.begun p 5).store.countPending r.cursor (readClassSet f) = count := by
      rw [Store.countPending, Store.fromCursor, List.filter_filter]
      exact congrArg (fun keep => (s.store.records.filter keep).length) (funext fun x => Bool.and_comm ..)
    have set_port (c : PortState) : answered.ports.set p c = s.ports.set p c := PerPort.set_set ..
    have port : answered.ports.get p = _ := PerPort.get_set_same ..
    rw [show (s.begun p 5).store.reading.get p = r from rfl, counted, staleAfter_setFilter, State.answerOk,
      State.setPort_begun_respond, State.begun_port, set_port, port]
    rfl
end

section
/-! SUPPORT. The delivered record (R173, R174): the kind code, presence byte and fields of each kind, and its 32 bytes. -/

namespace Sys2Proof.Machine

/-! ### Fields of one byte -/

@[simp] theorem byteIndexOrNone_eq {n : Nat} (i : Option (Fin n)) : byteIndexOrNone i = [indexByte i] := by
  cases i <;> rfl

@[simp] theorem bytes2_length (n : Nat) : (bytes2 n).length = 2 := rfl
@[simp] theorem bytes4_length (n : Nat) : (bytes4 n).length = 4 := rfl

/-! ### The fields of streak and mark records -/

theorem StreakFields.bytes_eq (f : StreakFields) (stop : List Byte) (reason : Byte) :
    f.bytes stop [reason] = streakBytes f stop reason := by
  simp only [StreakFields.bytes, streakBytes, byteIndexOrNone_eq, bytesPos, bytesSigned2]
  cases f.polarity <;> simp [bytePolarity]

theorem MarkFields.bytes_eq (f : MarkFields) (flags : Byte) (n mergeCount : Nat) (same : BitVec.ofNat 8 n = flags) :
    f.bytes n mergeCount = markBytes f flags mergeCount := by
  have kind : byteFirstKind f.firstKind
      = [match f.firstKind with | none => 0 | some .pinhole => 1 | some .streakOpen => 2 | some .streakContinue => 3] := by
    cases f.firstKind with
    | none => rfl
    | some kind => cases kind <;> rfl
  have source : bytesPosOr0 f.source = (match f.source with | none => [0, 0, 0, 0] | some q => bytes4 q.toNat) := by
    cases f.source <;> rfl
  rw [MarkFields.bytes, kind, source, byte1, byte1, same]
  rfl

theorem MarkFields.presence_eq (f : MarkFields) : BitVec.ofNat 8 f.presence = markPresence f := by
  rw [MarkFields.presence, markPresence]
  cases f.source.isSome <;> cases f.firstKind.isSome <;> rfl

/-- R174: code, presence byte and fields of a mark record. -/
theorem MarkFields.layout_eq (f : MarkFields) (code flags : Byte) {n : Nat} (mergeCount : Nat)
    (same : BitVec.ofNat 8 n = flags) :
    (code, markPresence f, markBytes f flags mergeCount) = (code, BitVec.ofNat 8 f.presence, f.bytes n mergeCount) := by
  rw [f.presence_eq, f.bytes_eq flags n mergeCount same]

/-! ### The layout of a record -/

/-- R174: the kind code, the presence byte and the fields that the part delivers are those of the layout. -/
theorem Content.layout_eq (c : Content) : c.layout = (c.code, BitVec.ofNat 8 c.presence, c.fields) := by
  cases c with
  | pinhole last fc lc area peak lines flags marker =>
    have byte : BitVec.ofNat 8
          (bitAt flags.merged 0 + bitAt flags.large 1 + bitAt flags.truncated 2 + bitAt flags.mapChange 3)
        = (if flags.merged then 1 else 0) + (if flags.large then 2 else 0) + (if flags.truncated then 4 else 0)
          + (if flags.mapChange then 8 else 0) := by
      cases flags.merged <;> cases flags.large <;> cases flags.truncated <;> cases flags.mapChange <;> rfl
    simp [Content.layout, Content.code, Content.presence, Content.fields, byte1, byte, bytesPos]
  | streakOpen f =>
    rw [Content.fields, f.bytes_eq]
    rfl
  | streakContinue f stop =>
    rw [Content.fields, f.bytes_eq]
    rfl
  | streakClose f stop reason => cases reason <;> rw [Content.fields, byteReason, f.bytes_eq] <;> rfl
  | blind last head cause count => cases cause <;> rfl
  | dropped last count => rfl
  | skipped last count preceding => rfl
  | fired f mergeCount extended forced =>
    exact f.layout_eq 0x20 _ mergeCount (by cases extended <;> cases forced <;> rfl)
  | suppressed f mergeCount => exact f.layout_eq 0x21 0 mergeCount rfl
  | late f => exact f.layout_eq 0x22 0 0 rfl
  | lost f => exact f.layout_eq 0x23 0 0 rfl
  | unconfirmed f => exact f.layout_eq 0x24 0 0 rfl
  | run former new port =>
    rw [Content.fields, byteRunState_eq, byteRunState_eq]
    cases port with
    | none => rfl
    | some p => cases p <;> rfl
  | splice previous arrival => cases arrival <;> rfl
  | spliceArrived capture linePosition applied => cases applied <;> rfl
  | bankSwitched bank mode => cases bank <;> cases mode <;> rfl
  | teachDone n target taught untaught => rfl
  | teachAborted reason n taken => cases reason <;> rfl
  | encoderFault highWater => rfl
  | headState head former new cause =>
    rw [Content.fields, byteHeadState_eq, byteHeadState_eq]
    cases cause <;> rfl
  | overflowRuns count firstColumn => rfl
  | overflowBlobs count firstColumn => rfl
  | overflowStreaks bin sign start => cases sign <;> rfl
  | overflowSplices capture => rfl

/-- R174: the fields of a kind reach no further than byte 31. -/
theorem Content.layout_fields_length (c : Content) : c.layout.2.2.length ≤ 20 := by
  have streak (f : StreakFields) (stop : List Byte) (reason : Byte) (four : stop.length = 4) :
      (streakBytes f stop reason).length ≤ 20 := by
    simp [streakBytes, four]
  have mark (f : MarkFields) (flags : Byte) (mergeCount : Nat) : (markBytes f flags mergeCount).length ≤ 20 := by
    cases source : f.source <;> simp [markBytes, source]
  cases c with
  | streakOpen f => exact streak f _ _ rfl
  | streakContinue f stop => exact streak f _ _ rfl
  | streakClose f stop reason => exact streak f _ _ rfl
  | fired f mergeCount extended forced => exact mark ..
  | suppressed f mergeCount => exact mark ..
  | late f => exact mark ..
  | lost f => exact mark ..
  | unconfirmed f => exact mark ..
  | splice previous arrival => cases arrival <;> simp [Content.layout]
  | _ => simp [Content.layout]

/-- R174: the byte of a side, or of NONE. -/
def sideOrNoneByte : Option Side → Byte
  | none => 2
  | some .top => 0
  | some .bottom => 1

theorem byteSide_eq_sideOrNone (side : Option Side) : byteSide side = [sideOrNoneByte side] := by
  cases side with
  | none => rfl
  | some side => cases side <;> rfl

/-- R173, R174: a delivered record, by its layout. -/
def Record.layoutBytes (x : Record) : List Byte :=
  let kind := x.draft.content.layout
  bytes4 x.seq.toNat ++ [kind.1, sideOrNoneByte x.draft.side, indexByte x.draft.lane, kind.2.1]
    ++ bytes4 x.draft.position.toNat ++ kind.2.2 ++ List.replicate (20 - kind.2.2.length) 0

theorem Record.bytes_eq (x : Record) : x.bytes = x.layoutBytes := by
  simp only [Record.bytes, Record.layoutBytes, Content.layout_eq, byteSide_eq_sideOrNone, byteIndexOrNone_eq, byte1,
    bytesPos, padTo, List.append_assoc, List.cons_append, List.nil_append]

theorem Record.layoutBytes_length (x : Record) : x.layoutBytes.length = 32 := by
  have reach := x.draft.content.layout_fields_length
  simp only [Record.layoutBytes, List.length_append, bytes4_length, List.length_cons, List.length_nil,
    List.length_replicate]
  omega

end Sys2Proof.Machine
end

section
/-! SUPPORT. READ_RECORDS (R135, R159, R172): what it makes of the issuing port, and its response. -/

namespace Sys2Proof.Machine

/-- R135: a port's reading state after a read. -/
def Reading.afterRead (r : Reading) (placed : List Record) (cursor : Seq) : Reading :=
  { r with cursor := cursor, pending := r.pending - placed.length, lost := 0 }

/-- R135, R159: a port after a read at this time, with this reading state before it and this pending count left. -/
def PortState.afterRead (c : PortState) (now : Nat) (r : Reading) (pending : Nat) : PortState :=
  { c with
    raised := { c.raised with storeGap := decide (r.lost = 0) && c.raised.storeGap, recordsStale := false }
    staleTimer :=
      if pending = 0 then none else if r.staleTime = 0 then c.staleTimer else some (now + 1000 * r.staleTime) }

/-- R135: a read that examines the records from the cursor on with this result. -/
theorem State.readRecords_eq {s : State} {p : Port} {maximum : Nat} {placed : List Record} {cursor : Seq}
    (read : examine (s.store.reading.get p).filter (clampMaximum maximum)
      (s.store.fromCursor (s.store.reading.get p).cursor) (s.store.reading.get p).cursor = (placed, cursor)) :
    s.readRecords p maximum
      = let r := s.store.reading.get p
        let pending := r.pending - placed.length
        (s.setPort p (r.afterRead placed cursor) ((s.ports.get p).afterRead s.now r pending)).respond p
          (.okWith (readBody r.lost placed pending)) := by
  by_cases gapless : (s.store.reading.get p).lost = 0 <;>
  simp [State.readRecords, State.reading, read, State.modReading, State.modPort, State.setPort, Reading.afterRead,
    PortState.afterRead, gapless]

theorem byte_gap (n : Nat) : byteBool (decide (n ≠ 0)) = [if n = 0 then 0 else 1] := by
  by_cases zero : n = 0 <;> simp [byteBool, zero]

theorem readBody_eq (lost : Nat) (records : List Record) (pending : Nat) :
    readBody lost records pending
      = [if lost = 0 then 0 else 1] ++ bytes2 lost ++ [BitVec.ofNat 8 records.length]
        ++ records.flatMap Record.layoutBytes ++ bytes2 pending := by
  rw [readBody, byte_gap, byte1, funext Record.bytes_eq]

end Sys2Proof.Machine

open Sys2Proof Sys2Proof.Machine

/-- Settles O41: the records from the cursor on are those behind the ones it has passed, of which the read examines the first,
as far as `examine_spec` says. -/
theorem readRecordsDeliversFromCursor : Obligations.ReadRecordsDeliversFromCursor := by
  intro s p m taken consecutive counts r c maximum reads
  have agrees : s.store.Agrees r := (s.store.sound_iff.mp ⟨consecutive, counts⟩).2 p
  obtain ⟨examined, left, whole, result, placed, stops, last, pending, -⟩ :=
    s.store.examine_fromCursor consecutive agrees maximum
  have acts : exec (.readRecords p [m]) s = .next ((s.begun p 1).readRecords p m.toNat) :=
    congrArg Host.Outcome.next (takeCommand_taken _ _ _ _ _ taken)
  refine ⟨_, examined, left, whole, List.length_take_of_le agrees.1, placed, stops, fun full => ?_,
    Record.layoutBytes_length, ?_, ?_⟩
  · have some_placed : examined.filter reads ≠ [] := fun none_placed => by
      rw [none_placed] at full
      have : 1 ≤ maximum := le_max_left ..
      simp at full
      omega
    have some_examined : examined ≠ [] := fun none_examined => some_placed (by rw [none_examined]; rfl)
    exact ⟨_, List.getLast?_eq_some_getLast some_examined, last full _ (List.getLast?_eq_some_getLast some_examined)⟩
  · exact Nat.sub_eq_of_eq_add' pending
  · rw [acts, State.readRecords_eq (s := s.begun p 1) result]
    dsimp only
    rw [State.setPort_begun_respond, State.begun_port, readBody_eq]
    rfl
end

section
/-! SUPPORT. The append of a taken record (R128 to R130, R159): what the arbiter takes, what the append makes of the store and of
each port, and what it leaves as it was. -/

namespace Sys2Proof.Machine

/-! ### The front record (R128) -/

theorem State.nextWriter_eq {s : State} {w : Writer} {o : Offer} {before after : List Writer}
    (rotation : s.store.rotation = before ++ w :: after) (idle : ∀ v ∈ before, s.front v = none)
    (front : s.front w = some o) : s.nextWriter = some w := by
  rw [State.nextWriter, rotation, List.find?_append, List.find?_eq_none.mpr fun v mem => by simp [idle v mem]]
  simp [front]

/-- R128: the writer served moves behind the others. -/
theorem moveLast_eq {w : Writer} {before after : List Writer} (not_before : w ∉ before) (not_after : w ∉ after) :
    moveLast w (before ++ w :: after) = before ++ after ++ [w] := by
  have kept (l : List Writer) (out : w ∉ l) : l.filter (· ≠ w) = l :=
    List.filter_eq_self.mpr fun v mem => by
      have other : v ≠ w := fun same => out (same ▸ mem)
      simpa using other
  rw [moveLast, List.filter_append, List.filter_cons_of_neg (by simp), kept before not_before, kept after not_after]

/-- R128: what taking a front record changes beyond the rotation. -/
theorem State.frontTaken_eq (s : State) (w : Writer) :
    s.frontTaken w
      = { s with
          eng := (s.takeFront w).eng
          store :=
            { s.store with
              waiting := (s.takeFront w).store.waiting, rotation := moveLast w s.store.rotation } } := by
  unfold State.frontTaken State.takeFront
  split
  · rfl
  · split <;> rfl

/-- R128: a front record that waits in the store. -/
theorem State.takeFront_waiting {s : State} {w : Writer} {o : Offer} {pre post : List Offer}
    (waiting : s.store.waiting = pre ++ o :: post) (writer : o.writer = w) (others : ∀ x ∈ pre, x.writer ≠ w) :
    s.takeFront w = s.modStore fun t => { t with waiting := pre ++ post } := by
  have some_waits : s.store.waiting.any (·.writer = w) = true := by simp [waiting, writer]
  have erased : s.store.waiting.eraseP (·.writer = w) = pre ++ post := by
    rw [waiting, List.eraseP_append_right _ fun x mem => by simpa using others x mem,
      List.eraseP_cons_of_pos (by simpa using writer)]
  simp only [State.takeFront, some_waits, if_true, State.modStore, erased]

/-- R74, R128: a front record of the record list of a line operation. -/
theorem State.takeFront_list {s : State} {side : Side} (none_waits : ∀ x ∈ s.store.waiting, x.writer ≠ .engine side) :
    s.takeFront (.engine side) = s.modEng side fun e => { e with recordList := e.recordList.tail } :=
  if_neg (by simpa using none_waits)

/-! ### What lies beyond the store, and the records that wait -/

/-- Two states alike but for the store, the mark scheduler and the ports. -/
structure State.AlikeBeyond (s t : State) : Prop where
  now : t.now = s.now
  runState : t.runState = s.runState
  pos : t.pos = s.pos
  heads : t.heads = s.heads
  asm : t.asm = s.asm
  eng : t.eng = s.eng
  lanes : t.lanes = s.lanes

theorem State.AlikeBeyond.refl (s : State) : s.AlikeBeyond s := ⟨rfl, rfl, rfl, rfl, rfl, rfl, rfl⟩

theorem State.AlikeBeyond.trans {s t u : State} (h : s.AlikeBeyond t) (k : t.AlikeBeyond u) : s.AlikeBeyond u :=
  ⟨k.now.trans h.now, k.runState.trans h.runState, k.pos.trans h.pos, k.heads.trans h.heads, k.asm.trans h.asm,
    k.eng.trans h.eng, k.lanes.trans h.lanes⟩

theorem State.AlikeBeyond.appended (s : State) (d : Draft) : s.AlikeBeyond (s.appended d) :=
  ⟨rfl, rfl, rfl, rfl, rfl, rfl, rfl⟩

theorem State.evictIfFull_alike (s : State) :
    s.AlikeBeyond s.evictIfFull ∧ s.evictIfFull.marks = s.marks ∧ s.evictIfFull.store.rotation = s.store.rotation
      ∧ s.evictIfFull.store.nextSeq = s.store.nextSeq ∧ s.evictIfFull.store.waiting = s.store.waiting := by
  rcases s.evictIfFull_cases with ⟨-, same⟩ | ⟨x, rest, -, -, evicted⟩
  · rw [same]
    exact ⟨.refl s, rfl, rfl, rfl, rfl⟩
  · rw [evicted]
    exact ⟨⟨rfl, rfl, rfl, rfl, rfl, rfl, rfl⟩, rfl, rfl, rfl, rfl⟩

theorem State.considerRecord_alike (s : State) (r : Record) (flag : Option Bool) :
    s.AlikeBeyond (s.considerRecord r flag) ∧ s.store.waiting <+: (s.considerRecord r flag).store.waiting
      ∧ (s.considerRecord r flag).store.rotation = s.store.rotation := by
  rcases s.considerRecord_cases r flag with ⟨orders, same⟩ | ⟨side, lane, position, content, same⟩ <;> rw [same]
  · exact ⟨⟨rfl, rfl, rfl, rfl, rfl, rfl, rfl⟩, List.prefix_refl s.store.waiting, rfl⟩
  · rw [State.markTroubleRecord_eq]
    exact ⟨⟨rfl, rfl, rfl, rfl, rfl, rfl, rfl⟩, List.prefix_append .., rfl⟩

/-- R127 to R131: what an append leaves as it is: all beyond the store, the mark scheduler and the ports; the rotation; the
records that wait, behind which those of the mark scheduler join; and, without a set governing flag, the mark scheduler. -/
theorem State.append_alike (s : State) (o : Offer) :
    s.AlikeBeyond (s.append o) ∧ (s.append o).store.rotation = s.store.rotation
      ∧ s.store.waiting <+: (s.append o).store.waiting ∧ (o.flag ≠ some true → (s.append o).marks = s.marks) := by
  obtain ⟨evicted, marks, rotation, -, waiting⟩ := s.evictIfFull_alike
  rw [State.append_eq]
  obtain ⟨considered, joined, rotation'⟩ :=
    (s.evictIfFull.appended o.draft).considerRecord_alike { seq := s.evictIfFull.store.nextSeq, draft := o.draft } o.flag
  refine ⟨(evicted.trans (.appended ..)).trans considered, rotation'.trans rotation, waiting ▸ joined, fun unflagged => ?_⟩
  rw [State.considerRecord_unflagged _ unflagged]
  exact marks

theorem State.considerRecord_ports (s : State) (r : Record) (flag : Option Bool) (p : Port) :
    ((s.considerRecord r flag).ports.get p).raised.storeGap = (s.ports.get p).raised.storeGap
      ∧ ((s.considerRecord r flag).ports.get p).staleTimer = (s.ports.get p).staleTimer := by
  rcases s.considerRecord_cases r flag with ⟨orders, same⟩ | ⟨side, lane, position, content, same⟩ <;> rw [same]
  · exact ⟨rfl, rfl⟩
  · rw [State.markTroubleRecord_eq, PerPort.get_all]
    exact ⟨rfl, rfl⟩

/-- R127, R129: what an append makes of the store, waiting records apart. -/
theorem State.append_ledger (s : State) (o : Offer) : (s.append o).ledger = (s.evictIfFull.appended o.draft).ledger := by
  rw [State.append_eq, State.ledger_considerRecord]

/-! ### One port (R129, R130, R159) -/

theorem PortState.counting_storeGap (x : Record) (now : Nat) (r : Reading) (c : PortState) :
    (c.counting x now r).raised.storeGap = c.raised.storeGap := by
  unfold PortState.counting
  split <;> rfl

/-- R159: the stale timer starts when an append raises the pending count from 0. -/
theorem PortState.counting_staleTimer (x : Record) (now : Nat) (r : Reading) (c : PortState) :
    (c.counting x now r).staleTimer
      = if r.filter.reads x = true ∧ r.pending = 0 ∧ r.staleTime ≠ 0 then some (now + 1000 * r.staleTime)
        else c.staleTimer := by
  cases reads : r.filter.reads x <;> simp [PortState.counting, staleAfter, reads]

theorem Reading.evicting_eq (x : Record) (r : Reading) :
    r.evicting x
      = { r with
          cursor := if r.cursor = x.seq then x.seq + 1 else r.cursor
          lost := if r.cursor = x.seq ∧ r.filter.reads x = true then min 65535 (r.lost + 1) else r.lost
          pending := if r.cursor = x.seq ∧ r.filter.reads x = true then r.pending - 1 else r.pending } := by
  simp only [Reading.evicting, Reading.loses_iff]
  rfl

theorem PortState.evicting_storeGap (x : Record) (now : Nat) (r : Reading) (c : PortState) :
    (c.evicting x now r).raised.storeGap
      = (c.raised.storeGap || decide (r.cursor = x.seq ∧ r.filter.reads x = true ∧ r.lost = 0)) := by
  simp only [← and_assoc, ← Reading.loses_iff]
  cases loses : r.loses x <;> simp [PortState.evicting, loses]

/-- R159: the stale timer stops when an eviction takes the pending count to 0. -/
theorem PortState.evicting_staleTimer (x : Record) (now : Nat) (r : Reading) (c : PortState) :
    (c.evicting x now r).staleTimer
      = if r.cursor = x.seq ∧ r.filter.reads x = true ∧ (r.evicting x).pending = 0 then none else c.staleTimer := by
  simp only [← and_assoc, ← Reading.loses_iff]
  cases loses : r.loses x with
  | false => simp [PortState.evicting, loses]
  | true =>
    simp only [PortState.evicting, Reading.evicting, loses, if_true, staleAfter, true_and]
    split
    · rfl
    case isFalse some_left => rw [if_neg fun none_pending => by omega]

/-! ### The whole append -/

theorem State.append_nextSeq (s : State) (o : Offer) : (s.append o).store.nextSeq = s.store.nextSeq + 1 := by
  obtain ⟨-, -, -, next, -⟩ := s.evictIfFull_alike
  have appended : (s.append o).store.nextSeq = s.evictIfFull.store.nextSeq + 1 :=
    congrArg Store.nextSeq (s.append_ledger o)
  rw [appended, next]

/-- R129, R159: what an append makes of a port, by what the eviction left of it. -/
theorem State.append_port (s : State) (o : Offer) (p : Port) :
    let x : Record := { seq := s.store.nextSeq, draft := o.draft }
    let r := s.evictIfFull.store.reading.get p
    let c := s.evictIfFull.ports.get p
    (s.append o).store.reading.get p = r.counting x
      ∧ ((s.append o).ports.get p).raised.storeGap = c.raised.storeGap
      ∧ ((s.append o).ports.get p).staleTimer
        = if r.filter.reads x = true ∧ r.pending = 0 ∧ r.staleTime ≠ 0 then some (s.now + 1000 * r.staleTime)
          else c.staleTimer := by
  obtain ⟨alike, -, -, next, -⟩ := s.evictIfFull_alike
  intro x r c
  have appended : (s.evictIfFull.appended o.draft).ports.get p = c.counting x s.now r := by
    rw [State.appended, next, alike.now]
    exact PerPort.get_ofFn ..
  have reading := congrArg (fun t : Store => t.reading.get p) (s.append_ledger o)
  obtain ⟨gap, timer⟩ := (s.evictIfFull.appended o.draft).considerRecord_ports
    { seq := s.evictIfFull.store.nextSeq, draft := o.draft } o.flag p
  rw [← State.append_eq, appended] at gap timer
  refine ⟨reading.trans ?_, gap.trans (c.counting_storeGap x s.now r), timer.trans (c.counting_staleTimer x s.now r)⟩
  rw [State.appended, next]
  exact PerPort.get_ofFn ..

/-- R129, R159: an append to a store with room. -/
theorem State.append_room {s : State} (o : Offer) (room : s.store.records.length < 2048) :
    let y : Record := { seq := s.store.nextSeq, draft := o.draft }
    (s.append o).store.records = s.store.records ++ [y] ∧ (s.append o).store.oldestSeq = s.store.oldestSeq
      ∧ ∀ p,
        let r := s.store.reading.get p
        (s.append o).store.reading.get p = r.counting y
          ∧ ((s.append o).ports.get p).raised.storeGap = (s.ports.get p).raised.storeGap
          ∧ ((s.append o).ports.get p).staleTimer
            = if r.filter.reads y = true ∧ r.pending = 0 ∧ r.staleTime ≠ 0 then some (s.now + 1000 * r.staleTime)
              else (s.ports.get p).staleTimer := by
  have ledger := s.append_ledger o
  have port := s.append_port o
  rw [State.evictIfFull_room room] at ledger port
  have oldest := congrArg Store.oldestSeq ledger
  exact ⟨congrArg Store.records ledger, oldest, port⟩

/-- R129, R130, R159: an append to a full store. -/
theorem State.append_full {s : State} (o : Offer) {x : Record} {rest : List Record}
    (records : s.store.records = x :: rest) (full : 2048 ≤ s.store.records.length) :
    let y : Record := { seq := s.store.nextSeq, draft := o.draft }
    (s.append o).store.records = rest ++ [y] ∧ (s.append o).store.oldestSeq = s.store.oldestSeq + 1
      ∧ ∀ p,
        let r := s.store.reading.get p
        let c := (s.ports.get p).evicting x s.now r
        (s.append o).store.reading.get p = (r.evicting x).counting y
          ∧ ((s.append o).ports.get p).raised.storeGap = c.raised.storeGap
          ∧ ((s.append o).ports.get p).staleTimer
            = if r.filter.reads y = true ∧ (r.evicting x).pending = 0 ∧ r.staleTime ≠ 0 then
                some (s.now + 1000 * r.staleTime)
              else c.staleTimer := by
  have ledger := s.append_ledger o
  have port := s.append_port o
  rw [State.evictIfFull_full records full] at ledger port
  refine ⟨congrArg Store.records ledger, congrArg Store.oldestSeq ledger, fun p => ?_⟩
  obtain ⟨reading, gap, timer⟩ := port p
  simp only [State.setPorts, State.modStore_store, State.modStore_ports, PerPort.get_ofFn] at reading gap timer
  exact ⟨reading, gap, timer⟩

/-! ### The arbiter's append (R128, R129) -/

/-- R128: taking a front record changes nothing that an append looks at. -/
theorem State.frontTaken_same (s : State) (w : Writer) :
    (s.frontTaken w).now = s.now ∧ (s.frontTaken w).ports = s.ports ∧ (s.frontTaken w).store.nextSeq = s.store.nextSeq
      ∧ (s.frontTaken w).store.oldestSeq = s.store.oldestSeq ∧ (s.frontTaken w).store.records = s.store.records
      ∧ (s.frontTaken w).store.reading = s.store.reading := by
  rw [s.frontTaken_eq w]
  exact ⟨rfl, rfl, rfl, rfl, rfl, rfl⟩

/-- R128, R129: what taking a front record and appending it leaves as it was. -/
theorem State.append_frontTaken_beyond (s : State) (w : Writer) (o : Offer) :
    let t := (s.frontTaken w).append o
    t.pos = s.pos ∧ t.heads = s.heads ∧ t.asm = s.asm ∧ t.lanes = s.lanes ∧ t.runState = s.runState ∧ t.now = s.now
      ∧ (o.flag ≠ some true → t.marks = s.marks) := by
  obtain ⟨alike, -, -, marks⟩ := (s.frontTaken w).append_alike o
  dsimp only
  rw [alike.pos, alike.heads, alike.asm, alike.lanes, alike.runState, alike.now]
  rw [s.frontTaken_eq w] at marks ⊢
  exact ⟨rfl, rfl, rfl, rfl, rfl, rfl, marks⟩

/-- R128: the engines and the records that wait, after a front record that waited in the store. -/
theorem State.append_frontTaken_waiting {s : State} {w : Writer} {o : Offer} {pre post : List Offer}
    (waits : s.store.waiting = pre ++ o :: post) (writer : o.writer = w) (others : ∀ x ∈ pre, x.writer ≠ w) :
    ((s.frontTaken w).append o).eng = s.eng ∧ pre ++ post <+: ((s.frontTaken w).append o).store.waiting := by
  obtain ⟨alike, -, waiting, -⟩ := (s.frontTaken w).append_alike o
  rw [s.frontTaken_eq w, State.takeFront_waiting waits writer others] at alike waiting ⊢
  exact ⟨alike.eng, waiting⟩

/-- R74, R128: the engines and the records that wait, after a front record of a record list. -/
theorem State.append_frontTaken_list {s : State} {w : Writer} {o : Offer} (front : s.front w = some o) (side : Side)
    (own : w = .engine side) (none_waits : ∀ x ∈ s.store.waiting, x.writer ≠ w) :
    (s.eng.get side).recordList.head? = some o
      ∧ ((s.frontTaken w).append o).eng
        = s.eng.set side { (s.eng.get side) with recordList := (s.eng.get side).recordList.tail }
      ∧ s.store.waiting <+: ((s.frontTaken w).append o).store.waiting := by
  subst own
  obtain ⟨alike, -, waiting, -⟩ := (s.frontTaken (.engine side)).append_alike o
  rw [s.frontTaken_eq, State.takeFront_list none_waits] at alike waiting ⊢
  rcases State.front_cases front with ⟨pre, post, waits, writer, -⟩ | ⟨-, listed⟩
  · exact absurd writer (none_waits o (by simp [waits]))
  · exact ⟨listed, alike.eng, waiting⟩

end Sys2Proof.Machine

open Sys2Proof Sys2Proof.Machine

/-- Settles O39: what the arbiter takes, and what the append makes of each port with room and without. -/
theorem appendServesRotationAndCounts : Obligations.AppendServesRotationAndCounts := by
  intro s w o before after rotation not_after idle front bound
  have not_before : w ∉ before := fun mem => by simp [idle w mem] at front
  have run : exec .recordAppend s = .next ((s.frontTaken w).append o) :=
    congrArg Host.Outcome.next (State.arbitrate_served (State.nextWriter_eq rotation idle front) front)
  have last_place : ((s.frontTaken w).append o).store.rotation = before ++ after ++ [w] := by
    obtain ⟨-, served, -⟩ := (s.frontTaken w).append_alike o
    rw [served, s.frontTaken_eq w, rotation]
    exact moveLast_eq not_before not_after
  obtain ⟨same_now, same_ports, same_seq, same_oldest, same_records, same_reading⟩ := s.frontTaken_same w
  have next := (s.frontTaken w).append_nextSeq o
  rw [same_seq] at next
  rcases Nat.lt_or_eq_of_le bound with room | full
  · obtain ⟨records, oldest, port⟩ := State.append_room (s := s.frontTaken w) o (by rwa [same_records])
    simp only [same_seq, same_records, same_oldest, same_reading, same_ports, same_now] at records oldest port
    refine ⟨_, run, last_place, next, ?_, ?_, fun _ _ => State.append_frontTaken_waiting,
      State.append_frontTaken_list front, fun p => ⟨fun _ => port p, ?_⟩, s.append_frontTaken_beyond w o⟩
    · rw [oldest, if_neg room.ne]
    · rw [records, if_neg room.ne]
    · exact fun _ _ _ full => absurd full room.ne
  · obtain ⟨x, rest, split⟩ := List.exists_cons_of_length_pos (l := s.store.records) (by omega)
    obtain ⟨records, oldest, port⟩ :=
      State.append_full (s := s.frontTaken w) o (same_records.trans split) (by rw [same_records]; exact full.ge)
    simp only [same_seq, same_oldest, same_reading, same_ports, same_now] at records oldest port
    refine ⟨_, run, last_place, next, ?_, ?_, fun _ _ => State.append_frontTaken_waiting,
      State.append_frontTaken_list front, fun p => ⟨?_, ?_⟩, s.append_frontTaken_beyond w o⟩
    · rw [oldest, if_pos full]
    · rw [records, if_pos full, split, List.tail_cons]
    · exact fun room => absurd full room.ne
    · intro x' rest' split' _ lost left timer
      obtain ⟨rfl, rfl⟩ := List.cons.inj (split.symm.trans split')
      obtain ⟨reading, gap, stale⟩ := port p
      rw [PortState.evicting_storeGap] at gap
      rw [PortState.evicting_staleTimer] at stale
      simp only [Reading.evicting_eq] at reading stale
      exact ⟨reading, gap, stale⟩
end

section
/-! SUPPORT. The candidate of an appended record (R131, R143 to R147): what its placing makes of the schedule in each case, and
what the append before it leaves of the mark scheduler and of MARK_TROUBLE. -/

namespace Sys2Proof.Machine

/-! ### Placing a candidate (R146) -/

/-- R146: the order of a candidate that is placed. -/
def Candidate.order (c : Candidate) : Order :=
  { marker := c.marker, firePos := c.firePos, source := c.source, firstKind := c.firstKind, side := c.side,
    lane := c.lane, mergeCount := 0 }

/-- R146: the merge window that a candidate is held against. -/
def State.windowOf (s : State) (c : Candidate) : Nat := (s.marker c.marker).record.mergeWindow

theorem joins_iff (w : Nat) (c : Candidate) (x : Order) :
    joins w c x = true
      ↔ x.marker = c.marker ∧ min (x.firePos - c.firePos).toNat (c.firePos - x.firePos).toNat ≤ w := by
  simp only [joins, within, Bool.and_eq_true, decide_eq_true_eq]

/-- R146: a candidate merges into the first order that it joins. -/
theorem mergeInto_split {w : Nat} {c : Candidate} {pre post : List Order} {x : Order} (joined : joins w c x = true)
    (others : ∀ y ∈ pre, ¬joins w c y = true) :
    mergeInto w c (pre ++ x :: post) = pre ++ { x with mergeCount := satSucc Config.max16 x.mergeCount } :: post := by
  induction pre with
  | nil => exact if_pos joined
  | cons y rest ih =>
    rw [List.cons_append, mergeInto, if_neg (others y (by simp)), ih fun z mem => others z (by simp [mem])]
    rfl

/-- R143, R146: a new order joins behind the orders that do not stand behind it, and before the first one that does. -/
theorem insertOrder_split (web : Position) (x : Order) (orders : List Order) :
    ∃ pre post,
      orders = pre ++ post ∧ insertOrder web x orders = pre ++ x :: post
        ∧ (∀ y ∈ pre, standsBefore web x y = false) ∧ ∀ y, post.head? = some y → standsBefore web x y = true := by
  induction orders with
  | nil => exact ⟨[], [], rfl, rfl, nofun, nofun⟩
  | cons y rest ih =>
    cases before : standsBefore web x y with
    | true => exact ⟨[], y :: rest, rfl, if_pos before, nofun, fun z first => Option.some.inj first ▸ before⟩
    | false =>
      obtain ⟨pre, post, split, inserted, passed, next⟩ := ih
      refine ⟨y :: pre, post, by rw [split]; rfl, ?_, ?_, next⟩
      · rw [insertOrder, if_neg (by simp [before]), inserted]
        rfl
      · exact List.forall_mem_cons.mpr ⟨before, passed⟩

theorem State.place_late {s : State} {c : Candidate} (behind : ahead c.firePos s.pos.web = false) :
    s.place c = (s.markTroubleRecord c.side c.lane c.firePos (.late c.fields), .late) :=
  if_pos (by simp [behind])

theorem State.place_merged {s : State} {c : Candidate} {pre post : List Order} {x : Order}
    (is_ahead : ahead c.firePos s.pos.web = true) (orders : s.marks.orders = pre ++ x :: post)
    (joined : joins (s.windowOf c) c x = true) (others : ∀ y ∈ pre, ¬joins (s.windowOf c) c y = true) :
    s.place c
      = (s.setOrders (pre ++ { x with mergeCount := satSucc Config.max16 x.mergeCount } :: post), .merged) := by
  have joins_one : s.marks.orders.any (joins (s.windowOf c) c) = true :=
    List.any_eq_true.mpr ⟨x, by simp [orders], joined⟩
  rw [← mergeInto_split joined others, ← orders]
  exact (if_neg (by simp [is_ahead])).trans (if_pos joins_one)

theorem State.place_lost {s : State} {c : Candidate} (is_ahead : ahead c.firePos s.pos.web = true)
    (alone : ∀ x ∈ s.marks.orders, ¬joins (s.windowOf c) c x = true) (full : 64 ≤ s.marks.orders.length) :
    s.place c = (s.markTroubleRecord c.side c.lane c.firePos (.lost c.fields), .lost) := by
  have joins_none : ¬s.marks.orders.any (joins (s.windowOf c) c) = true := by simpa using alone
  exact (if_neg (by simp [is_ahead])).trans ((if_neg joins_none).trans (if_pos full))

theorem State.place_placed {s : State} {c : Candidate} (is_ahead : ahead c.firePos s.pos.web = true)
    (alone : ∀ x ∈ s.marks.orders, ¬joins (s.windowOf c) c x = true) (room : s.marks.orders.length < 64) :
    s.place c = (s.setOrders (insertOrder s.pos.web c.order s.marks.orders), .placed) := by
  have joins_none : ¬s.marks.orders.any (joins (s.windowOf c) c) = true := by simpa using alone
  exact (if_neg (by simp [is_ahead])).trans ((if_neg joins_none).trans (if_neg (Nat.not_le.mpr room)))

/-! ### The candidate of a record (R131, R144) -/

/-- R144: the candidate that a record of this kind and marker yields. -/
def State.candidateOf (s : State) (x : Record) (k : MarkerId) (kind : DefectKind) : Candidate :=
  { marker := k, firePos := x.draft.position + BitVec.ofNat 32 (s.marker k).record.distance, source := some x.seq
    firstKind := some kind, side := x.draft.side, lane := x.draft.lane }

theorem State.considerRecord_marked {s : State} {x : Record} {k : MarkerId} {kind : DefectKind}
    (marked : x.draft.content.markable = some (k, kind)) :
    s.considerRecord x (some true) = (s.place (s.candidateOf x k kind)).1 := by
  simp only [State.considerRecord, marked]
  rfl

theorem State.considerRecord_unmarked {s : State} {x : Record} (flag : Option Bool)
    (unmarked : x.draft.content.markable = none) : s.considerRecord x flag = s := by
  simp only [State.considerRecord, unmarked]

/-! ### What the append before it leaves -/

theorem State.evictIfFull_markTrouble (s : State) (p : Port) :
    (s.evictIfFull.ports.get p).raised.markTrouble = (s.ports.get p).raised.markTrouble := by
  rcases s.evictIfFull_cases with ⟨-, same⟩ | ⟨x, rest, -, -, evicted⟩
  · rw [same]
  · rw [evicted]
    simp only [State.setPorts, PerPort.get_ofFn, PortState.evicting]
    split <;> rfl

theorem State.appended_markTrouble (s : State) (d : Draft) (p : Port) :
    ((s.appended d).ports.get p).raised.markTrouble = (s.ports.get p).raised.markTrouble := by
  simp only [State.appended, State.setPorts, PerPort.get_ofFn, PortState.counting]
  split <;> rfl

/-- R146, R147: what a LATE or a LOST record makes of a part alike to `s` in its schedule. -/
theorem State.markTroubleRecord_troubles (a : State) (side : Option Side) (lane : Option LaneId) (position : Position)
    (content : Content) :
    let t := a.markTroubleRecord side lane position content
    t.marks = a.marks ∧ (∀ q, (t.ports.get q).raised.markTrouble = true)
      ∧ t.store.waiting.getLast?
        = some (plainOffer .marks { side := side, lane := lane, position := position, content := content } none) := by
  rw [State.markTroubleRecord_eq]
  exact ⟨rfl, fun q => by rw [PerPort.get_all]; rfl, List.getLast?_concat ..⟩

/-- R131: the state in which the mark scheduler considers an appended record. -/
theorem exec_recordAppend_considers {s : State} {w : Writer} {o : Offer} (next : s.nextWriter = some w)
    (front : s.front w = some o) :
    ∃ a : State,
      exec .recordAppend s = .next (a.considerRecord { seq := s.store.nextSeq, draft := o.draft } o.flag)
        ∧ a.pos = s.pos ∧ a.marks = s.marks
        ∧ ∀ q, (a.ports.get q).raised.markTrouble = (s.ports.get q).raised.markTrouble := by
  obtain ⟨evicted, marks, -, next_seq, -⟩ := (s.frontTaken w).evictIfFull_alike
  have taken := s.frontTaken_eq w
  have run : exec .recordAppend s = .next ((s.frontTaken w).append o) :=
    congrArg Host.Outcome.next (State.arbitrate_served next front)
  rw [State.append_eq, next_seq, show (s.frontTaken w).store.nextSeq = s.store.nextSeq by rw [taken]] at run
  refine ⟨_, run, evicted.pos.trans (by rw [taken]), marks.trans (by rw [taken]), fun q => ?_⟩
  rw [State.appended_markTrouble, State.evictIfFull_markTrouble, taken]

end Sys2Proof.Machine

open Sys2Proof Sys2Proof.Machine

/-- Settles O40: the record yields the candidate of its kind and marker, and its placing is one of four cases. -/
theorem appendedDefectPlacesOrder : Obligations.AppendedDefectPlacesOrder := by
  intro s w o marker kind next front content untroubled troubled
  have markable : o.draft.content.markable = marker.map (·, kind) := by
    rcases content with ⟨_, _, _, _, _, _, _, same, rfl⟩ | ⟨f, same, rfl, rfl⟩ | ⟨f, stop, same, rfl, rfl⟩ <;>
    rw [same] <;> rfl
  let y : Record := { seq := s.store.nextSeq, draft := o.draft }
  obtain ⟨a, run, pos, marks, quiet⟩ := exec_recordAppend_considers next front
  refine ⟨_, run, fun none_yielded => ?_, ?_⟩
  · have same : a.considerRecord y o.flag = a := by
      rcases none_yielded with unflagged | unmarked
      · exact State.considerRecord_unflagged y unflagged
      · exact State.considerRecord_unmarked o.flag (by rw [markable, unmarked]; rfl)
    rw [same]
    exact ⟨marks, quiet⟩
  · intro k flagged marked firePos fields isAhead near new
    let c := a.candidateOf y k kind
    have record : a.marker k = s.marker k := by rw [State.marker, marks, State.marker]
    have place : c.firePos = firePos := by
      change o.draft.position + BitVec.ofNat 32 (a.marker k).record.distance = _
      rw [record]
    have reach : ahead c.firePos a.pos.web = isAhead := by rw [place, pos]
    have nearby (x : Order) : joins (a.windowOf c) c x = true ↔ near x := by
      rw [joins_iff, place, State.windowOf, show c.marker = k from rfl, record]
    have same_fields : c.fields = fields := by
      simp only [Candidate.fields, place]
      rfl
    have same_order : c.order = new := by
      simp only [Candidate.order, place]
      rfl
    have placed : a.considerRecord y o.flag = (a.place c).1 := by
      rw [flagged]
      exact State.considerRecord_marked (by rw [markable, marked]; rfl)
    have troubles (content : Content) : troubled (a.markTroubleRecord c.side c.lane c.firePos content) firePos content := by
      obtain ⟨kept, raised, waits⟩ := a.markTroubleRecord_troubles c.side c.lane c.firePos content
      rw [place] at kept raised waits ⊢
      exact ⟨kept.trans marks, raised, waits⟩
    rw [placed]
    refine ⟨fun behind => ?_, fun is_ahead pre x post orders joined others => ?_, fun is_ahead alone full => ?_,
      fun is_ahead alone room => ?_⟩
    · rw [State.place_late (reach.trans behind), same_fields]
      exact troubles _
    · rw [State.place_merged (reach.trans is_ahead) (marks ▸ orders) ((nearby x).mpr joined)
        fun y mem => mt (nearby y).mp (others y mem)]
      exact ⟨by rw [State.setOrders_marks, marks]; rfl, quiet⟩
    · rw [State.place_lost (reach.trans is_ahead) (fun x mem => mt (nearby x).mp (alone x (marks ▸ mem))) (marks ▸ full),
        same_fields]
      exact troubles _
    · obtain ⟨pre, post, orders, inserted, passed, first⟩ := insertOrder_split s.pos.web new s.marks.orders
      rw [State.place_placed (reach.trans is_ahead) (fun x mem => mt (nearby x).mp (alone x (marks ▸ mem)))
        (marks ▸ room), same_order, pos, marks, inserted]
      exact ⟨pre, post, orders, by rw [State.setOrders_marks, marks], quiet, passed, first⟩
end

section
/-! SUPPORT. The firing of orders (R148 to R150): what one order makes of its marker and the record it makes, what
several do one after the other, and that the count before the firing does not look at the mark scheduler. -/

namespace Sys2Proof.Machine

/-! ### The firing of one order (R148 to R150) -/

/-- R149, R150: the marker of an order that has fired. -/
def Marker.fired (m : Marker) (now : Nat) (o : Order) : Marker :=
  match m.record.mode with
  | .normal => (m.pulse now).openWindow now o
  | .inhibit => m
  | .force => if m.output = .idle then { m with output := .forced } else m

/-- R133, R149, R150: the record of an order that fires at a marker. -/
def Marker.firingOffer (m : Marker) (o : Order) : Offer :=
  plainOffer .marks
    { side := o.side, lane := o.lane, position := o.firePos,
      content :=
        match m.record.mode with
        | .normal => .fired o.fields o.mergeCount (decide (m.output = .pulsing)) false
        | .inhibit => .suppressed o.fields o.mergeCount
        | .force => .fired o.fields o.mergeCount false true } none

/-- A change of one marker and one record made are a firing, if they are those of the order's firing at that marker. -/
theorem State.firingRecord_eq {s : State} {o : Order} {f : Marker → Marker} {content : Content}
    (marker : f (s.marker o.marker) = (s.marker o.marker).fired s.now o)
    (record : plainOffer .marks { side := o.side, lane := o.lane, position := o.firePos, content := content } none
      = (s.marker o.marker).firingOffer o) :
    (s.modMarker o.marker f).firingRecord o content =
      { s with
        marks := { s.marks with markers := vecModify s.marks.markers o.marker (·.fired s.now o) }
        store := s.store.adding [(s.marker o.marker).firingOffer o] } := by
  rw [← record, ← vecModify_congr s.marks.markers o.marker marker]
  rfl

/-- R148 to R150: an order that is consumed changes its own marker and makes one record. -/
theorem State.fire_eq (s : State) (o : Order) :
    s.fire o =
      { s with
        marks := { s.marks with markers := vecModify s.marks.markers o.marker (·.fired s.now o) }
        store := s.store.adding [(s.marker o.marker).firingOffer o] } := by
  simp only [State.fire]
  cases mode : (s.marker o.marker).record.mode with
  | normal => exact State.firingRecord_eq (by rw [Marker.fired, mode]) (by rw [Marker.firingOffer, mode])
  | inhibit =>
    have same : s.modMarker o.marker id = s := by rw [State.modMarker, vecModify_eq_self _ _ _ rfl]
    rw [← State.firingRecord_eq (f := id) (by rw [Marker.fired, mode]; rfl) (by rw [Marker.firingOffer, mode]), same]
  | force => exact State.firingRecord_eq (by rw [Marker.fired, mode]) (by rw [Marker.firingOffer, mode])

/-- R149: a NORMAL firing at an output that is not FORCED. -/
theorem Marker.fired_normal {m : Marker} (now : Nat) (o : Order) (mode : m.record.mode = .normal)
    (free : m.output ≠ .forced) :
    m.fired now o =
      { m with
        output := .pulsing
        pulseEnd := some (now + 100 * m.record.pulseWidth)
        window :=
          if m.record.confirmTimeout = 0 then none
          else
            some
              { expiry := now + 1000 * m.record.confirmTimeout, firePos := o.firePos, source := o.source
                firstKind := o.firstKind, side := o.side, lane := o.lane } } := by
  have pulses : m.pulse now = { m with output := .pulsing, pulseEnd := some (now + 100 * m.record.pulseWidth) } := by
    cases output : m.output with
    | forced => exact absurd output free
    | idle | pulsing => simp only [Marker.pulse, output]
  simp only [Marker.fired, mode, pulses, Marker.openWindow]
  split <;> rfl

/-- R150: an INHIBIT firing leaves its marker. -/
theorem Marker.fired_inhibit {m : Marker} (now : Nat) (o : Order) (mode : m.record.mode = .inhibit) :
    m.fired now o = m := by
  simp only [Marker.fired, mode]

/-- R150: a FORCE firing at an output that does not pulse. -/
theorem Marker.fired_force {m : Marker} (now : Nat) (o : Order) (mode : m.record.mode = .force)
    (rests : m.output ≠ .pulsing) : m.fired now o = { m with output := .forced } := by
  simp only [Marker.fired, mode]
  cases output : m.output with
  | idle => rfl
  | pulsing => exact absurd output rests
  | forced => rw [if_neg (by decide), ← output]

/-! ### Several firings, one after the other (R148) -/

/-- R148: the markers after orders have fired one after the other. -/
def firedMarkers (now : Nat) : Vector Marker 8 → List Order → Vector Marker 8
  | markers, [] => markers
  | markers, o :: rest => firedMarkers now (vecModify markers o.marker (·.fired now o)) rest

/-- R148: the records of orders that fire one after the other. -/
def firingOffers (now : Nat) : Vector Marker 8 → List Order → List Offer
  | _, [] => []
  | markers, o :: rest =>
    markers[o.marker].firingOffer o :: firingOffers now (vecModify markers o.marker (·.fired now o)) rest

theorem State.foldl_fire_eq (s : State) (orders : List Order) :
    orders.foldl State.fire s =
      { s with
        marks := { s.marks with markers := firedMarkers s.now s.marks.markers orders }
        store := s.store.adding (firingOffers s.now s.marks.markers orders) } := by
  induction orders generalizing s with
  | nil => simp [firedMarkers, firingOffers]
  | cons o rest ih =>
    rw [List.foldl_cons, ih, State.fire_eq]
    simp only [Store.adding_adding]
    rfl

/-- R148: the orders that a position reaches. -/
def Scheduler.due (m : Scheduler) (web : Position) : List Order := m.orders.filter (·.firePos = web)

/-- R148: the orders at the new position leave the schedule, and each fires. -/
theorem State.fireAt_eq (s : State) (web : Position) :
    s.fireAt web =
      { s with
        marks :=
          { markers := firedMarkers s.now s.marks.markers (s.marks.due web)
            orders := s.marks.orders.filter (·.firePos ≠ web) }
        store := s.store.adding (firingOffers s.now s.marks.markers (s.marks.due web)) } := by
  rw [State.fireAt, State.foldl_fire_eq]
  rfl

theorem firingOffers_length (now : Nat) (markers : Vector Marker 8) (orders : List Order) :
    (firingOffers now markers orders).length = orders.length := by
  induction orders generalizing markers with
  | nil => simp only [firingOffers, List.length_nil]
  | cons o rest ih => rw [firingOffers, List.length_cons, ih, List.length_cons]

theorem firingOffers_writer (now : Nat) (markers : Vector Marker 8) (orders : List Order) :
    ∀ x ∈ firingOffers now markers orders, x.writer = .marks := by
  induction orders generalizing markers with
  | nil => simp [firingOffers]
  | cons o rest ih => exact List.forall_mem_cons.mpr ⟨rfl, ih _⟩

/-- The firings of other markers leave a marker. -/
theorem firedMarkers_other {now : Nat} {markers : Vector Marker 8} {orders : List Order} {k : MarkerId}
    (others : ∀ o ∈ orders, o.marker ≠ k) : (firedMarkers now markers orders)[k] = markers[k] := by
  induction orders generalizing markers with
  | nil => rfl
  | cons o rest ih =>
    obtain ⟨other, others⟩ := List.forall_mem_cons.mp others
    rw [firedMarkers, ih others, vecModify_get, if_neg other.symm]

theorem firedMarkers_append (now : Nat) (markers : Vector Marker 8) (pre post : List Order) :
    firedMarkers now markers (pre ++ post) = firedMarkers now (firedMarkers now markers pre) post := by
  induction pre generalizing markers with
  | nil => rfl
  | cons o rest ih => exact ih _

theorem firingOffers_append (now : Nat) (markers : Vector Marker 8) (pre post : List Order) :
    firingOffers now markers (pre ++ post)
      = firingOffers now markers pre ++ firingOffers now (firedMarkers now markers pre) post := by
  induction pre generalizing markers with
  | nil => rfl
  | cons o rest ih => exact congrArg (_ :: ·) (ih _)

/-- An order that is the only one of its marker fires at the marker as it stood before all of them. -/
theorem fired_alone {now : Nat} {markers : Vector Marker 8} {pre post : List Order} {o : Order}
    (others : ∀ x ∈ pre ++ post, x.marker ≠ o.marker) :
    (firedMarkers now markers (pre ++ o :: post))[o.marker] = markers[o.marker].fired now o
      ∧ markers[o.marker].firingOffer o ∈ firingOffers now markers (pre ++ o :: post) := by
  obtain ⟨before, after⟩ := List.forall_mem_append.mp others
  have stands := firedMarkers_other (now := now) (markers := markers) before
  constructor
  · rw [firedMarkers_append, firedMarkers, firedMarkers_other after, vecModify_get, if_pos rfl, stands]
  · rw [firingOffers_append, firingOffers, stands]
    simp

/-- Orders of different markers each fire at the marker as it stood before all of them. -/
theorem firingOffers_distinct {now : Nat} {markers : Vector Marker 8} {orders : List Order}
    (distinct : orders.Pairwise fun x y => x.marker ≠ y.marker) :
    firingOffers now markers orders = orders.map fun o => markers[o.marker].firingOffer o := by
  induction orders generalizing markers with
  | nil => rfl
  | cons o rest ih =>
    obtain ⟨differs, distinct⟩ := List.pairwise_cons.mp distinct
    rw [firingOffers, ih distinct, List.map_cons]
    refine congrArg (_ :: ·) (List.map_congr_left fun x mem => ?_)
    rw [vecModify_get, if_neg (differs x mem).symm]

/-- R143: the orders at one position of a schedule in order stand in ascending marker index. -/
theorem State.due_ascending {s : State} (inOrder : s.scheduleInOrder) (web : Position) :
    (s.marks.due web).Pairwise fun x y => x.marker < y.marker := by
  obtain ⟨sorted, -⟩ := inOrder
  refine (sorted.filter _).imp_of_mem fun {x y} hx hy stands => ?_
  have x_place : x.firePos = web := of_decide_eq_true (List.mem_filter.mp hx).2
  have y_place : y.firePos = web := of_decide_eq_true (List.mem_filter.mp hy).2
  rcases stands with nearer | ⟨-, lower⟩
  · rw [x_place, y_place] at nearer
    exact absurd nearer (Nat.lt_irrefl _)
  · exact lower

/-! ### What does not look at the mark scheduler -/

/-- The state with another mark scheduler. -/
def State.withMarks (s : State) (m : Scheduler) : State := { s with marks := m }

/-- The mark scheduler plays no part in what becomes of the state, and stays. -/
def IgnoresMarks (f : State → State) : Prop := ∀ (s : State) (m : Scheduler), f (s.withMarks m) = (f s).withMarks m

theorem IgnoresMarks.comp {f g : State → State} (hf : IgnoresMarks f) (hg : IgnoresMarks g) :
    IgnoresMarks fun s => f (g s) := fun s m => (congrArg f (hg s m)).trans (hf (g s) m)

theorem IgnoresMarks.id : IgnoresMarks fun s => s := fun _ _ => rfl

theorem IgnoresMarks.ite {p : State → Prop} [DecidablePred p] {f g : State → State}
    (same : ∀ s m, p (s.withMarks m) ↔ p s) (hf : IgnoresMarks f) (hg : IgnoresMarks g) :
    IgnoresMarks fun s => if p s then f s else g s := by
  intro s m
  by_cases holds : p s
  · simp only [if_pos holds, if_pos ((same s m).mpr holds), hf s m]
  · simp only [if_neg holds, if_neg (mt (same s m).mp holds), hg s m]

theorem IgnoresMarks.foldl {α : Type} {f : State → α → State} (each : ∀ x, IgnoresMarks (f · x)) (xs : List α) :
    IgnoresMarks (xs.foldl f) := by
  induction xs with
  | nil => exact .id
  | cons x rest ih => exact ih.comp (each x)

/-- R34: a change of head state, with its record and its notice. -/
theorem State.setHeadState_ignoresMarks (h : HeadId) (new : HeadState) (cause : HeadCause) :
    IgnoresMarks (·.setHeadState h new cause) :=
  .ite (p := fun s => (s.head h).state = new) (fun _ _ => .rfl) .id fun _ _ => rfl

/-- R44: the miss accounting of one head. -/
theorem State.accountHead_ignoresMarks (slot : Slot) (h : HeadId) : IgnoresMarks (·.accountHead slot h) := by
  have counts : IgnoresMarks fun s => s.setMisses h (satSucc 255 (s.head h).misses) := fun _ _ => rfl
  have mutes := IgnoresMarks.ite (p := fun s => (s.head h).state = .live ∧ 3 ≤ (s.head h).misses) (fun _ _ => .rfl)
    (State.setHeadState_ignoresMarks h .mute .misses) .id
  exact .ite (p := fun _ => slot.contributions[h].isSome = true) (fun _ _ => .rfl) (fun _ _ => rfl)
    (.ite (p := fun _ => slot.expected.contains h = true) (fun _ _ => .rfl) (mutes.comp counts) .id)

theorem State.accountMisses_ignoresMarks (side : Side) (slot : Slot) : IgnoresMarks (·.accountMisses side slot) :=
  fun s m => IgnoresMarks.foldl (State.accountHead_ignoresMarks slot) (s.headsOn side) s m

theorem State.updateBlindRun_ignoresMarks (side : Side) (slot : Slot) (h : HeadId) :
    IgnoresMarks (State.updateBlindRun side slot · h) := by
  intro s m
  simp only [State.updateBlindRun_eq]
  rfl

/-- R45 to R48: the offer of a closed line. -/
theorem State.offerLine_ignoresMarks (side : Side) (slot : Slot) (cols : List (Nat × Byte)) :
    IgnoresMarks (·.offerLine side slot cols) := by
  have queues : IgnoresMarks fun s => (s.closeDropRun side).modAsm side fun a =>
      { a with
        queue :=
          a.queue ++
            [{ position := slot.position, cols := cols
               precedingDrop := (s.asm.get side).dropRun.map (·.count) }] } := by
    intro s m
    simp only [State.closeDropRun_eq]
    rfl
  have updates : IgnoresMarks fun s => (s.headsOn side).foldl (State.updateBlindRun side slot) s := fun s m =>
    IgnoresMarks.foldl (State.updateBlindRun_ignoresMarks side slot) (s.headsOn side) s m
  exact .ite (p := fun s => (s.asm.get side).queue.length < Config.queueDepth) (fun _ _ => .rfl) (updates.comp queues)
    fun _ _ => rfl

/-- R43: the closure of the oldest slot. -/
theorem State.closeOldest_ignoresMarks (side : Side) : IgnoresMarks (·.closeOldest side) := by
  intro s m
  have slots_same : ((s.withMarks m).asm.get side).slots = (s.asm.get side).slots := rfl
  cases slots : (s.asm.get side).slots with
  | nil => simp only [State.closeOldest, slots_same, slots]
  | cons slot rest =>
    simp only [State.closeOldest, slots_same, slots]
    exact ((State.offerLine_ignoresMarks side slot (s.lineCols side slot)).comp
      (State.accountMisses_ignoresMarks side slot)) (s.modAsm side fun a => { a with slots := rest }) m

theorem State.cascade_ignoresMarks (side : Side) (n : Nat) : IgnoresMarks (State.cascade side n) := by
  induction n with
  | zero => exact .id
  | succ n ih =>
    intro s m
    have slots_same : ((s.withMarks m).asm.get side).slots = (s.asm.get side).slots := rfl
    cases slots : (s.asm.get side).slots with
    | nil => simp only [State.cascade, slots_same, slots]
    | cons slot rest =>
      simp only [State.cascade, slots_same, slots]
      split
      · exact (ih.comp (State.closeOldest_ignoresMarks side)) s m
      · rfl

theorem State.roomMade_ignoresMarks (side : Side) : IgnoresMarks (·.roomMade side) :=
  .ite (p := fun s => (s.asm.get side).slots.length < 4) (fun _ _ => .rfl) .id
    (IgnoresMarks.comp (f := (·.closeReady side)) (fun s m => State.cascade_ignoresMarks side _ s m)
      (State.closeOldest_ignoresMarks side))

/-- R38, R40: the opening of a slot. -/
theorem State.openSlot_ignoresMarks (side : Side) (line : LineNo) (trigger : Position) :
    IgnoresMarks (·.openSlot side line trigger) :=
  .ite (p := fun s => s.hasHead side = true) (fun _ _ => .rfl)
    (IgnoresMarks.comp
      (f := fun s => s.modAsm side fun a => { a with slots := a.slots ++ [s.newSlot side line trigger] })
      (fun _ _ => rfl) (State.roomMade_ignoresMarks side))
    .id

/-- R7, R11: the divider, with the trigger at its underflow. -/
theorem State.divide_ignoresMarks : IgnoresMarks State.divide := by
  intro s m
  by_cases left : 2 ≤ s.pos.divider
  · rw [s.divide_counted left, (s.withMarks m).divide_counted left]
    rfl
  · by_cases elapsed : s.pos.holdoff = 0 ∨ s.pos.holdoff ≤ s.pos.sinceTrigger
    · rw [s.divide_issued (by omega) elapsed, (s.withMarks m).divide_issued (by exact Nat.not_lt.mp left) elapsed]
      exact ((State.openSlot_ignoresMarks .bottom _ _).comp (State.openSlot_ignoresMarks .top _ _)) s.triggered m
    · have inside : s.pos.sinceTrigger < s.pos.holdoff := by omega
      rw [s.divide_skipped (by omega) inside, (s.withMarks m).divide_skipped (by exact Nat.not_lt.mp left) inside]
      rfl

/-! ### The count before the firing (R1, R4, R7) -/

/-- R1, R4, R7: a forward count up to the firing. -/
def State.counted (s : State) : State :=
  if ahead (s.pos.web + 1) s.pos.highWater = true ∧ s.runState = .inspecting then s.movedOn.divide else s.movedOn

theorem State.counted_ignoresMarks : IgnoresMarks State.counted :=
  .ite (p := fun s => ahead (s.pos.web + 1) s.pos.highWater = true ∧ s.runState = .inspecting) (fun _ _ => .rfl)
    (State.divide_ignoresMarks.comp (g := State.movedOn) fun _ _ => rfl) fun _ _ => rfl

/-- R148: a forward count is what it is without the firing, and then the firing. -/
theorem State.forwardCount_eq (s : State) : s.forwardCount = s.counted.fireAt (s.pos.web + 1) := by
  rw [State.counted]
  split
  case isTrue divides => exact s.forwardCount_advancing divides.1 divides.2
  case isFalse other =>
    rcases not_and_or.mp other with behind | rests
    · exact s.forwardCount_rewound (by simpa using behind)
    · exact s.forwardCount_idle rests

/-- The count before the firing leaves the mark scheduler and the present time. -/
theorem State.counted_same (s : State) : s.counted.marks = s.marks ∧ s.counted.now = s.now := by
  rw [State.counted]
  split
  · obtain ⟨u, made, -, frame⟩ := s.movedOn.divide_frame
    exact ⟨frame.marks, frame.now⟩
  · exact ⟨rfl, rfl⟩

/-- R148: an ENCODER_EDGE of a forward count, as the count without orders and then the firing. -/
theorem exec_encoderEdge_fires {s : State} {a b : Bool} (edge : ((s.pos.encA, s.pos.encB), a, b) ∈ forwardEdges) :
    ∃ u, exec (.encoderEdge a b) { s with marks := { s.marks with orders := [] } } = .next u
      ∧ u.marks = { s.marks with orders := [] }
      ∧ exec (.encoderEdge a b) s =
        .next
          { u with
            marks :=
              { markers := firedMarkers s.now s.marks.markers (s.marks.due (s.pos.web + 1))
                orders := s.marks.orders.filter (·.firePos ≠ s.pos.web + 1) }
            store := u.store.adding (firingOffers s.now s.marks.markers (s.marks.due (s.pos.web + 1))) } := by
  let c := (s.holding a b).counted
  obtain ⟨marks, now⟩ : c.marks = s.marks ∧ c.now = s.now := (s.holding a b).counted_same
  have without : ((s.holding a b).withMarks { s.marks with orders := [] }).counted
      = c.withMarks { s.marks with orders := [] } := State.counted_ignoresMarks ..
  refine ⟨c.withMarks { s.marks with orders := [] }, ?_, rfl, ?_⟩
  · refine (exec_encoderEdge_forward (s := s.withMarks { s.marks with orders := [] }) edge).trans (congrArg _ ?_)
    rw [State.forwardCount_eq]
    change State.fireAt ((s.holding a b).withMarks { s.marks with orders := [] }).counted _ = _
    rw [without]
    exact State.fireAt_none _ _ nofun
  · rw [exec_encoderEdge_forward edge, State.forwardCount_eq]
    refine congrArg Host.Outcome.next ((c.fireAt_eq (s.pos.web + 1)).trans ?_)
    rw [← marks, ← now]
    rfl

end Sys2Proof.Machine

open Sys2Proof Sys2Proof.Machine

/-- Settles O46: the count does not look at the mark scheduler, and each firing changes its own marker and makes one
record. -/
theorem orderFiresAtItsPosition : Obligations.OrderFiresAtItsPosition := by
  intro s a b edge fired offered
  obtain ⟨u, without, marks, run⟩ := exec_encoderEdge_fires edge
  let made := firingOffers s.now s.marks.markers fired
  refine ⟨u, _, without, run, marks, ⟨made, rfl, firingOffers_length .., firingOffers_writer _ _ _, fun distinct => ?_⟩,
    fun inOrder => State.due_ascending inOrder _, rfl, fun k others => ?_, fun pre post o orders place others => ?_⟩
  · rw [show made = _ from firingOffers_distinct distinct]
    rfl
  · refine firedMarkers_other fun o mem => ?_
    exact others o (List.mem_of_mem_filter mem) (of_decide_eq_true (List.mem_filter.mp mem).2)
  · have split : fired = pre.filter (·.firePos = s.pos.web + 1) ++ o :: post.filter (·.firePos = s.pos.web + 1) := by
      simp [fired, orders, place]
    have alone : ∀ x ∈ pre.filter (·.firePos = s.pos.web + 1) ++ post.filter (·.firePos = s.pos.web + 1),
        x.marker ≠ o.marker := by
      rw [← List.filter_append]
      exact fun x mem => others x (List.mem_of_mem_filter mem) (of_decide_eq_true (List.mem_filter.mp mem).2)
    obtain ⟨marker, offer⟩ := fired_alone (now := s.now) (markers := s.marks.markers) alone
    rw [← split] at marker offer
    have waits : (s.marker o.marker).firingOffer o ∈ u.store.waiting ++ made := List.mem_append_right _ offer
    refine ⟨fun mode free => ⟨marker.trans (Marker.fired_normal s.now o mode free), ?_⟩,
      fun mode => ⟨marker.trans (Marker.fired_inhibit s.now o mode), ?_⟩,
      fun mode rests => ⟨marker.trans (Marker.fired_force s.now o mode rests), ?_⟩⟩
    all_goals
      rw [Marker.firingOffer, mode] at waits
      exact waits
end

section
/-! SUPPORT. The answers of SET_MARKER and MARK (R140 to R146): the body that is read, the refusals, and what the
command makes of the markers and the schedule; and the statements of SET_MARKER, MARK and the timers, settled. -/

namespace Sys2Proof.Machine

/-! ### SET_MARKER (R140 to R142) -/

/-- R171: the marker mode that a byte names, if it names one. -/
theorem readMarkerMode_eq (b : Byte) :
    readMarkerMode b
      = if b.toNat ≤ 2 then some (if b = 0 then .normal else if b = 1 then .inhibit else .force) else none := by
  by_cases small : b.toNat ≤ 2
  · have codes : b = 0 ∨ b = 1 ∨ b = 2 := by bv_omega
    rcases codes with rfl | rfl | rfl <;> rfl
  · have normal : b ≠ 0 := by rintro rfl; simp at small
    have inhibit : b ≠ 1 := by rintro rfl; simp at small
    have force : b ≠ 2 := by rintro rfl; simp at small
    rw [readMarkerMode, if_neg normal, if_neg inhibit, if_neg force, if_neg small]

/-- R140: the ranges of the fields of a SET_MARKER body. -/
def SetMarkerBody.fits (b : SetMarkerBody) : Prop :=
  b.distance ≤ 16777215 ∧ 1 ≤ b.pulseWidth ∧ b.pulseWidth ≤ 1000 ∧ b.confirmTimeout ≤ 2000 ∧ b.mode.toNat ≤ 2

/-- R140: the record that a SET_MARKER body spells, where its fields are in range. -/
def SetMarkerBody.spelled (b : SetMarkerBody) : MarkerRecord where
  distance := b.distance
  pulseWidth := b.pulseWidth
  mergeWindow := b.mergeWindow
  confirmTimeout := b.confirmTimeout
  mode := if b.mode = 0 then .normal else if b.mode = 1 then .inhibit else .force

theorem SetMarkerBody.record_fits {b : SetMarkerBody} (fits : b.fits) : b.record = some b.spelled := by
  obtain ⟨distance, least, most, timeout, mode⟩ := fits
  simp only [SetMarkerBody.record, readMarkerMode_eq, if_pos mode]
  exact if_pos ⟨distance, least, most, timeout⟩

theorem SetMarkerBody.record_unfit {b : SetMarkerBody} (unfit : ¬b.fits) : b.record = none := by
  simp only [SetMarkerBody.record, readMarkerMode_eq]
  by_cases mode : b.mode.toNat ≤ 2
  · simp only [if_pos mode]
    exact if_neg fun ⟨distance, least, most, timeout⟩ => unfit ⟨distance, least, most, timeout, mode⟩
  · simp only [if_neg mode]

/-- R141, R142: a marker with its record replaced; a change of mode to or from FORCE moves the output and ends a
pulse. -/
theorem Marker.setRecord_eq (m : Marker) (r : MarkerRecord) :
    m.setRecord r =
      { m with
        record := r
        output :=
          if r.mode = m.record.mode then m.output
          else if r.mode = .force then .forced
          else if m.record.mode = .force then .idle
          else m.output
        pulseEnd :=
          if r.mode = m.record.mode then m.pulseEnd
          else if r.mode = .force ∨ m.record.mode = .force then none
          else m.pulseEnd } := by
  by_cases same : r.mode = m.record.mode
  · simp only [Marker.setRecord, Marker.changeMode, same, if_true]
  · have differs : m.record.mode ≠ r.mode := fun e => same e.symm
    by_cases force : r.mode = .force
    · simp only [Marker.setRecord, Marker.changeMode, if_neg same, if_neg differs, if_pos force, if_pos (Or.inl force)]
    · by_cases former : m.record.mode = .force
      · simp only [Marker.setRecord, Marker.changeMode, if_neg same, if_neg differs, if_neg force, if_pos former,
          if_pos (Or.inr former)]
      · simp only [Marker.setRecord, Marker.changeMode, if_neg same, if_neg differs, if_neg force, if_neg former,
          if_neg (not_or.mpr ⟨force, former⟩)]

/-- R140: SET_MARKER at a port that takes it, with an index or fields out of range. -/
theorem exec_setMarker_range {s : State} {p : Port} {body : List Byte} {b : SetMarkerBody} (taken : s.takes p)
    (read : readSetMarker body = some b) (bad : 8 ≤ b.index.toNat ∨ ¬b.fits) :
    exec (.setMarker p body) s = .next (s.refused p body.length .range) := by
  refine congrArg Host.Outcome.next ((takeCommand_taken s p _ readSetMarker _ taken).trans ?_)
  simp only [read]
  rcases bad with big | unfit
  · simp only [readIndex_ge big]
    exact State.refuse_begun ..
  · rw [SetMarkerBody.record_unfit unfit]
    cases readIndex 8 b.index <;> exact State.refuse_begun ..

/-- R141: SET_MARKER at a port that takes it, with every field in range. -/
theorem exec_setMarker_fits {s : State} {p : Port} {body : List Byte} {b : SetMarkerBody} {k : MarkerId}
    (taken : s.takes p) (read : readSetMarker body = some b) (index : readIndex 8 b.index = some k) (fits : b.fits) :
    exec (.setMarker p body) s =
      .next
        (if b.mergeWindow ≠ (s.marker k).record.mergeWindow ∧ s.marks.orders.any (·.marker = k) then
          s.refused p body.length .busy
        else (s.modMarker k (·.setRecord b.spelled)).answered p body.length { code := .ok, body := [] }) := by
  refine congrArg Host.Outcome.next ((takeCommand_taken s p _ readSetMarker _ taken).trans ?_)
  simp only [read, index, SetMarkerBody.record_fits fits]
  refine ite_congr rfl (fun _ => State.refuse_begun ..) fun _ => ?_
  exact State.respond_begun (s.modMarker k _) ..

/-! ### MARK (R145) -/

/-- R145: a manual candidate. -/
def manualCandidate (k : MarkerId) (position : Position) : Candidate :=
  { marker := k, firePos := position, source := none, firstKind := none, side := none, lane := none }

/-- R145, R171: the response to a MARK that is placed. -/
def placementResponse (x : Placement) : Response := { code := .ok, body := bytePlacement x }

/-- R145: a fire position more than 16,777,215 counts ahead of the web position. -/
def tooFarAhead (web position : Position) : Prop := ahead position web = true ∧ 16777215 < (position - web).toNat

/-- R145: MARK at a port that takes it, with an index out of range or too far a position. -/
theorem exec_mark_range {s : State} {p : Port} {i b3 b2 b1 b0 : Byte} (taken : s.takes p)
    (bad : 8 ≤ i.toNat ∨ tooFarAhead s.pos.web (BitVec.ofNat 32 (be32 b3 b2 b1 b0))) :
    exec (.mark p [i, b3, b2, b1, b0]) s = .next (s.refused p 5 .range) := by
  refine congrArg Host.Outcome.next ((takeCommand_taken s p _ readMark _ taken).trans ?_)
  simp only [readMark]
  rcases bad with big | far
  · simp only [readIndex_ge big]
    exact State.refuse_begun ..
  · cases readIndex 8 i with
    | none => exact State.refuse_begun ..
    | some k => exact (if_pos far).trans (State.refuse_begun ..)

/-- R145: MARK at a port that takes it places its candidate and answers the outcome. -/
theorem exec_mark_places {s : State} {p : Port} {b3 b2 b1 b0 : Byte} (k : MarkerId) (taken : s.takes p)
    (near : ¬tooFarAhead s.pos.web (BitVec.ofNat 32 (be32 b3 b2 b1 b0))) :
    let placed := (s.begun p 5).place (manualCandidate k (BitVec.ofNat 32 (be32 b3 b2 b1 b0)))
    exec (.mark p [BitVec.ofNat 8 k.val, b3, b2, b1, b0]) s
      = .next (placed.1.respond p (placementResponse placed.2)) := by
  refine congrArg Host.Outcome.next ((takeCommand_taken s p _ readMark _ taken).trans ?_)
  simp only [readMark, readIndex_ofNat k (by decide)]
  exact if_neg near

/-- R146, R155: the answer of a command that made a LATE or a LOST record. -/
theorem State.respond_markTroubleRecord (s : State) (p : Port) (len : Nat) (side : Option Side) (lane : Option LaneId)
    (position : Position) (content : Content) (r : Response) :
    ((s.begun p len).markTroubleRecord side lane position content).respond p r
      = { s.answered p len r with
          ports := (s.answered p len r).ports.all PortState.withMarkTrouble
          store :=
            s.store.adding
              [plainOffer .marks { side := side, lane := lane, position := position, content := content } none] } := by
  rw [State.markTroubleRecord_eq]
  cases p <;> rfl

/-- R146, R155: the answer of a command that changed the schedule. -/
theorem State.respond_setOrders (s : State) (p : Port) (len : Nat) (orders : List Order) (r : Response) :
    ((s.begun p len).setOrders orders).respond p r
      = { s.answered p len r with marks := { s.marks with orders := orders } } :=
  State.respond_begun (s.setOrders orders) p len r

end Sys2Proof.Machine

open Sys2Proof Sys2Proof.Machine

/-- Settles O47: each timer is brought to its time, and the marker or the port changes. -/
theorem pulseConfirmAndStaleTimersAct : Obligations.PulseConfirmAndStaleTimersAct := by
  intro s k p m with'
  refine ⟨fun stop runs => congrArg Host.Outcome.next ?_, rfl, fun w opened => congrArg Host.Outcome.next ?_,
    fun expiry runs => congrArg Host.Outcome.next ?_⟩
  · simp only [show (s.marker k).pulseEnd = some stop from runs, State.reachTime_eq]
    rfl
  · simp only [show (s.marker k).window = some w from opened, State.reachTime_eq, State.markTroubleRecord_eq]
    rfl
  · simp only [runs, State.reachTime_eq]
    rfl

/-- Settles O45: the body is read, its refusals stand in their order, and the record is replaced with its mode
change. -/
theorem setMarkerReplacesRecordAndActsOnOutput : Obligations.SetMarkerReplacesRecordAndActsOnOutput := by
  intro s p i d3 d2 d1 d0 p1 p0 w1 w0 t1 t0 m taken body fits
  let b : SetMarkerBody :=
    { index := i, distance := be32 d3 d2 d1 d0, pulseWidth := be16 p1 p0, mergeWindow := be16 w1 w0
      confirmTimeout := be16 t1 t0, mode := m }
  have read : readSetMarker body = some b := rfl
  refine ⟨fun bad => exec_setMarker_range taken read bad, fun k index good => ?_⟩
  intro old mode busy
  have asks : (b.mergeWindow ≠ (s.marker k).record.mergeWindow ∧ s.marks.orders.any (·.marker = k)) ↔ busy := by
    simp only [List.any_eq_true, decide_eq_true_eq]
    rfl
  rw [exec_setMarker_fits taken read (index ▸ readIndex_ofNat k (by decide)) good]
  have replaced : (s.modMarker k (·.setRecord b.spelled))
      = { s with marks := { s.marks with markers := s.marks.markers.set k (old.setRecord b.spelled) } } := rfl
  refine ⟨fun holds => congrArg _ (if_pos (asks.mpr holds)),
    fun free => congrArg _ ((if_neg (mt asks.mp free)).trans ?_)⟩
  rw [replaced, Marker.setRecord_eq]
  rfl

/-- Settles O44: the body is read, and the placing of the candidate is one of four cases. -/
theorem markPlacesManualCandidate : Obligations.MarkPlacesManualCandidate := by
  intro s p i b3 b2 b1 b0 body position isAhead far answered troubled
  refine ⟨fun init => congrArg Host.Outcome.next (takeFrame_init s p 5 _ init), exec_mark_range, ?_⟩
  rintro k rfl taken close fields near
  let c := manualCandidate k position
  let t := s.begun p 5
  have nearby (x : Order) : joins (t.windowOf c) c x = true ↔ near x := joins_iff ..
  rw [exec_mark_places k taken close]
  refine ⟨fun behind => congrArg _ ?_, fun is_ahead pre x post orders joined others => congrArg _ ?_,
    fun is_ahead alone full => congrArg _ ?_, fun is_ahead alone room => ?_⟩
  · rw [State.place_late (s := t) (c := c) behind]
    exact State.respond_markTroubleRecord ..
  · rw [State.place_merged (s := t) (c := c) is_ahead orders ((nearby x).mpr joined)
      fun y mem => mt (nearby y).mp (others y mem)]
    exact State.respond_setOrders ..
  · rw [State.place_lost (s := t) (c := c) is_ahead (fun x mem => mt (nearby x).mp (alone x mem)) full]
    exact State.respond_markTroubleRecord ..
  · intro new
    obtain ⟨pre, post, orders, inserted, passed, first⟩ := insertOrder_split s.pos.web new s.marks.orders
    refine ⟨pre, post, orders, congrArg _ ?_, passed, first⟩
    rw [State.place_placed (s := t) (c := c) is_ahead (fun x mem => mt (nearby x).mp (alone x mem)) room, ← inserted]
    exact State.respond_setOrders ..
end

section
/-! SUPPORT. The frames of commands and of responses: what taking a whole frame and a broken one makes of a port, which body
lengths the readers read, which command the bytes of a transfer spell, and what a FETCH shifts out. -/

namespace Sys2Proof.Machine

/-! ### Faults of a port (R158) -/

theorem PortState.fault_eq (c : PortState) (cause : FaultCause) :
    c.fault cause
      = { c with
          raised := { c.raised with portFault := true }
          faultCause := if c.raised.portFault then c.faultCause else some cause
          faultCount := if c.raised.portFault then min 255 (c.faultCount + 1) else 1 } := by
  obtain ⟨_, _, ⟨fault, _, _, _, _, _⟩, _, _, _, _, _, _⟩ := c
  cases fault <;> rfl

theorem State.portFault_eq (s : State) (p : Port) (cause : FaultCause) :
    s.portFault p cause = { s with ports := s.ports.set p ((s.ports.get p).fault cause) } := rfl

/-! ### Body lengths (R171, R172)

Each reader reads bodies of the lengths that the table of R171 allows, and no others. -/

section
variable {body : List Byte}

theorem readSetHead_length {b : SetHeadBody} : readSetHead body = some b → body.length = 10 := by
  unfold readSetHead
  split <;> simp

theorem readOneByte_length {b : Byte} : readOneByte body = some b → body.length = 1 := by
  unfold readOneByte
  split <;> simp

theorem readTeach_length {b : TeachBody} : readTeach body = some b → body.length = 4 := by
  unfold readTeach
  split <;> simp

theorem readSetSide_length {b : SetSideBody} : readSetSide body = some b → body.length = 2 := by
  unfold readSetSide
  split <;> simp

theorem readSetRecipe_length {b : SetRecipeBody} : readSetRecipe body = some b → body.length = 14 := by
  unfold readSetRecipe
  split <;> simp

theorem readSetLane_length {b : SetLaneBody} : readSetLane body = some b → body.length = 14 := by
  unfold readSetLane
  split <;> simp

theorem readSwitchBank_length {b : SwitchBankBody} : readSwitchBank body = some b → body.length = 5 := by
  unfold readSwitchBank
  split <;> simp

theorem readSetMarker_length {b : SetMarkerBody} : readSetMarker body = some b → body.length = 12 := by
  unfold readSetMarker
  split <;> simp

theorem readMark_length {b : MarkBody} : readMark body = some b → body.length = 5 := by
  unfold readMark
  split <;> simp

theorem readSetFilter_length {b : SetFilterBody} : readSetFilter body = some b → body.length = 5 := by
  unfold readSetFilter
  split <;> simp

theorem readNothing_length {b : Unit} : readNothing body = some b → body.length = 0 := by
  unfold readNothing
  split <;> simp

end

theorem takeField2_length {present : Bool} {body rest : List Byte} {v : Option Nat}
    (took : takeField2 present body = some (v, rest)) : body.length = (if present then 2 else 0) + rest.length := by
  cases present with
  | false =>
    cases took
    exact (Nat.zero_add _).symm
  | true =>
    simp only [takeField2, if_true] at took
    split at took
    · cases took
      simp only [List.length_cons, if_true]
      omega
    · cases took

theorem takeField4_length {present : Bool} {body rest : List Byte} {v : Option Nat}
    (took : takeField4 present body = some (v, rest)) : body.length = (if present then 4 else 0) + rest.length := by
  cases present with
  | false =>
    cases took
    exact (Nat.zero_add _).symm
  | true =>
    simp only [takeField4, if_true] at took
    split at took
    · cases took
      simp only [List.length_cons, if_true]
      omega
    · cases took

theorem readSetLine_lengthAllowed {p : Port} {body : List Byte} {b : SetLineBody} (read : readSetLine body = some b) :
    (Instr.setLine p body).lengthAllowed = true := by
  cases body with
  | nil => cases read
  | cons pr bytes =>
    simp only [readSetLine, bitOf, Option.bind_eq_bind, Option.bind_eq_some_iff, Prod.exists] at read
    obtain ⟨_, _, pitch, _, _, holdoff, _, _, dist, _, _, wait, _, _, top, _, last, bottom, read⟩ := read
    have ended : last = [] := by
      cases last with
      | nil => rfl
      | cons => cases read
    have l0 := takeField2_length pitch
    have l1 := takeField2_length holdoff
    have l2 := takeField4_length dist
    have l3 := takeField2_length wait
    have l4 := takeField4_length top
    have l5 := takeField4_length bottom
    rw [ended, List.length_nil] at l5
    exact decide_eq_true (by omega)

theorem readCalEntries_length {bytes : List Byte} {entries : List (Nat × Nat)}
    (read : readCalEntries bytes = some entries) : bytes.length = 3 * entries.length := by
  induction bytes using readCalEntries.induct generalizing entries with
  | case1 =>
    cases read
    rfl
  | case2 d hi lo rest ih =>
    obtain ⟨tail, tail_read, rfl⟩ := Option.map_eq_some_iff.mp read
    have := ih tail_read
    simp only [List.length_cons]
    omega
  | case3 bytes nil cons =>
    rw [readCalEntries] at read
    · cases read
    · exact nil
    · exact cons

theorem readSetCal_lengthAllowed {p : Port} {body : List Byte} {b : SetCalBody} (read : readSetCal body = some b) :
    (Instr.setCal p body).lengthAllowed = true := by
  simp only [readSetCal] at read
  split at read
  next sd f1 f0 n1 n0 rest =>
    split at read
    next entries entries_read =>
      split_ifs at read with count
      have length := readCalEntries_length entries_read
      rw [count] at length
      exact decide_eq_true length
    next => cases read
  next => cases read

/-! ### Whole command frames (R154 to R156) -/

/-- R154 to R156: the command is a whole frame with this body at this port, which the port discards, loses or hands to `act`; a
body of a length that the command does not allow is answered LENGTH. -/
def Instr.IsFrame (c : Instr) (p : Port) (body : List Byte) (act : State → State) : Prop :=
  (∀ s, exec c s = .next (takeFrame p body.length act s)) ∧ (c.lengthAllowed = false → ∀ s, act s = s.refuse p .length)

/-- R156 check 4: a named command is a frame that is answered LENGTH if its reader does not read the body. -/
theorem isFrame_of_read {β : Type} {c : Instr} {p : Port} {body : List Byte} {read : List Byte → Option β}
    {act : β → State → State} (runs : ∀ s, exec c s = .next (takeCommand p body read act s))
    (allowed : ∀ b, read body = some b → c.lengthAllowed = true) : ∃ f, Instr.IsFrame c p body f := by
  refine ⟨_, runs, fun bad s => ?_⟩
  have unread : read body = none :=
    Option.eq_none_iff_forall_ne_some.mpr fun b reads => Bool.eq_false_iff.mp bad (allowed b reads)
  rw [unread]

/-- R154, R156: every whole command frame is taken as a frame, whatever its command. -/
theorem exec_commandFrame {c : Instr} {p : Port} {body : List Byte} (frame : c.commandFrame = some (p, body)) :
    ∃ act, Instr.IsFrame c p body act := by
  cases c <;> try cases frame
  case setHead => exact isFrame_of_read (fun _ => rfl) fun _ read => decide_eq_true (readSetHead_length read)
  case getHead => exact isFrame_of_read (fun _ => rfl) fun _ read => decide_eq_true (readOneByte_length read)
  case setLine => exact isFrame_of_read (fun _ => rfl) fun _ => readSetLine_lengthAllowed
  case setCal => exact isFrame_of_read (fun _ => rfl) fun _ => readSetCal_lengthAllowed
  case teach => exact isFrame_of_read (fun _ => rfl) fun _ read => decide_eq_true (readTeach_length read)
  case teachAbort => exact isFrame_of_read (fun _ => rfl) fun _ read => decide_eq_true (readOneByte_length read)
  case setSide => exact isFrame_of_read (fun _ => rfl) fun _ read => decide_eq_true (readSetSide_length read)
  case setRecipe => exact isFrame_of_read (fun _ => rfl) fun _ read => decide_eq_true (readSetRecipe_length read)
  case setLane => exact isFrame_of_read (fun _ => rfl) fun _ read => decide_eq_true (readSetLane_length read)
  case switchBank => exact isFrame_of_read (fun _ => rfl) fun _ read => decide_eq_true (readSwitchBank_length read)
  case cancelSwitch => exact isFrame_of_read (fun _ => rfl) fun _ read => decide_eq_true (readNothing_length read)
  case setMarker => exact isFrame_of_read (fun _ => rfl) fun _ read => decide_eq_true (readSetMarker_length read)
  case mark => exact isFrame_of_read (fun _ => rfl) fun _ read => decide_eq_true (readMark_length read)
  case getMarker => exact isFrame_of_read (fun _ => rfl) fun _ read => decide_eq_true (readOneByte_length read)
  case readRecords => exact isFrame_of_read (fun _ => rfl) fun _ read => decide_eq_true (readOneByte_length read)
  case setFilter => exact isFrame_of_read (fun _ => rfl) fun _ read => decide_eq_true (readSetFilter_length read)
  case start => exact isFrame_of_read (fun _ => rfl) fun _ read => decide_eq_true (readNothing_length read)
  case stop => exact isFrame_of_read (fun _ => rfl) fun _ read => decide_eq_true (readNothing_length read)
  case setNotices => exact isFrame_of_read (fun _ => rfl) fun _ read => decide_eq_true (readOneByte_length read)
  case getNotice => exact isFrame_of_read (fun _ => rfl) fun _ read => decide_eq_true (readNothing_length read)
  case getStatus => exact isFrame_of_read (fun _ => rfl) fun _ read => decide_eq_true (readNothing_length read)
  case portReset => exact isFrame_of_read (fun _ => rfl) fun _ read => decide_eq_true (readNothing_length read)
  case unknownCommand q code bytes =>
    simp only [Instr.commandFrame] at frame
    split_ifs at frame with unknown
    cases frame
    exact ⟨fun u => u.refuse p .unknown, fun s => congrArg Host.Outcome.next (if_pos unknown), fun bad => by cases bad⟩

/-! ### Codes and frames (R156, R171) -/

theorem namedCommand_eq_none {code : Byte} (p : Port) (body : List Byte) (absent : code ∉ namedCodes) :
    namedCommand code p body = none := by
  have unlisted : commandTable.find? (·.1 = code) = none := by
    refine List.find?_eq_none.mpr fun row mem same => absent ?_
    exact List.mem_map.mpr ⟨row, mem, of_decide_eq_true same⟩
  rw [namedCommand, unlisted]
  rfl

theorem codeUnknown_of_absent {code : Byte} (command : code ≠ fetchCode) (absent : code ∉ namedCodes) :
    codeUnknown code = true := by
  simp [codeUnknown, command, absent]

/-- R171: the two bytes of a length spell it. -/
theorem frameBroken_bytes2 {body : List Byte} (fits : body.length < 65536) :
    frameBroken (bytes2 body.length ++ body) = false := by
  have high : body.length / 256 % 256 = body.length / 256 := Nat.mod_eq_of_lt (by omega)
  have spelled : 256 * (body.length / 256) + body.length % 256 = body.length := Nat.div_add_mod ..
  simp [frameBroken, bytes2, high, spelled]

theorem frameBroken_iff (rest : List Byte) :
    frameBroken rest = true
      ↔ rest.length < 2 ∨ ∃ hi lo body, rest = hi :: lo :: body ∧ body.length ≠ 256 * hi.toNat + lo.toNat := by
  match rest with
  | [] => simp [frameBroken]
  | [_] => simp [frameBroken]
  | hi :: lo :: body => simp [frameBroken]

/-- R171: a whole frame spells the command that its code names, or an unknown one. -/
theorem transferCommand_frame {code : Byte} (p : Port) {body : List Byte} (command : code ≠ fetchCode)
    (fits : body.length < 65536) :
    transferCommand p (code :: (bytes2 body.length ++ body))
      = some ((namedCommand code p body).getD (.unknownCommand p code body)) := by
  have whole := frameBroken_bytes2 fits
  rw [transferCommand, if_neg command, if_neg (by simp [whole])]
  rfl

/-- R171: a code of the table is not 0, which begins a FETCH. -/
theorem transferCommand_named {code : Byte} {p : Port} {body : List Byte} {c : Instr} (fits : body.length < 65536)
    (named : namedCommand code p body = some c) :
    transferCommand p (code :: (bytes2 body.length ++ body)) = some c := by
  have command : code ≠ fetchCode := by
    rintro rfl
    cases named
  rw [transferCommand_frame p command fits, named]
  rfl

theorem transferCommand_broken {code : Byte} {rest : List Byte} (p : Port) (command : code ≠ fetchCode)
    (broken : frameBroken rest = true) : transferCommand p (code :: rest) = some (.badFrame p code rest) := by
  rw [transferCommand, if_neg command, if_pos broken]

/-- R156 check 1, R158: outside INIT a broken frame is shifted in, and the port records the fault. -/
theorem exec_badFrame {s : State} {code : Byte} {rest : List Byte} (p : Port) (running : s.runState ≠ .init)
    (command : code ≠ fetchCode) (broken : frameBroken rest = true) :
    exec (.badFrame p code rest) s = .next ((s.shiftFiller p rest.length).portFault p .frame) := by
  have bad : isBadFrame code rest = true := by simp [isBadFrame, command, broken]
  exact congrArg Host.Outcome.next ((if_pos bad).trans (if_neg running))

/-! ### FETCH (R154, R157) -/

theorem State.statusOut_eq (s : State) (p : Port) :
    s.statusOut p
      = match (s.ports.get p).shownStatus with
        | some shown => shown
        | none =>
          if s.runState = .init then 0xA0
          else
            match (s.ports.get p).phase with
            | .idle => 0xA1
            | .executing => 0xA2
            | .responseHeld => 0xA3 := by
  rw [State.statusOut]
  cases (s.ports.get p).shownStatus <;> rfl

theorem State.fetch_init {s : State} (p : Port) (n : Nat) (init : s.runState = .init) :
    s.fetch p n = s.shiftResponse p [] n := if_pos init

/-- R157: without a held response, the empty response NONE is shifted out. -/
theorem State.fetch_none {s : State} {p : Port} (n : Nat) (running : s.runState ≠ .init)
    (unheld : (s.ports.get p).phase ≠ .responseHeld) : s.fetch p n = s.shiftResponse p Response.emptyNone.frame n := by
  rw [State.fetch, if_neg running]
  split
  next held _ => exact absurd held unheld
  next => rfl

theorem State.fetch_held {s : State} {p : Port} {r : Response} (n : Nat) (running : s.runState ≠ .init)
    (phase : (s.ports.get p).phase = .responseHeld) (held : (s.ports.get p).held = some r) :
    s.fetch p n = (s.shiftResponse p r.frame n).modPort p (·.fetched r.frame n) := by
  rw [State.fetch, if_neg running, phase, held]

theorem Response.frame_length (r : Response) : r.frame.length = 3 + r.body.length := by
  simp only [Response.frame, bytes2, List.length_append, List.length_cons, List.length_nil]

/-- R157: a response whose frame is not shifted out as a whole is kept for another FETCH. -/
theorem State.fetch_short {s : State} {p : Port} {r : Response} {n : Nat} (running : s.runState ≠ .init)
    (phase : (s.ports.get p).phase = .responseHeld) (held : (s.ports.get p).held = some r)
    (short : n < 3 + r.body.length) : s.fetch p n = s.shiftResponse p r.frame n := by
  have kept (c : PortState) : c.fetched r.frame n = c := if_neg (by rw [Response.frame_length]; omega)
  rw [State.fetch_held n running phase held]
  simp only [State.modPort, kept, PerPort.set_get]

/-- R157: a response whose whole frame is shifted out is discarded. -/
theorem State.fetch_whole {s : State} {p : Port} {r : Response} {n : Nat} (running : s.runState ≠ .init)
    (phase : (s.ports.get p).phase = .responseHeld) (held : (s.ports.get p).held = some r)
    (whole : 3 + r.body.length ≤ n) :
    s.fetch p n = (s.shiftResponse p r.frame n).modPort p fun c => { c with phase := .idle, held := none } := by
  have done (c : PortState) : c.fetched r.frame n = { c with phase := .idle, held := none } :=
    if_pos (by rw [Response.frame_length]; exact whole)
  rw [State.fetch_held n running phase held]
  simp only [done]

end Sys2Proof.Machine

open Sys2Proof Sys2Proof.Machine

/-- Settles O50: a FETCH in INIT, without a response, and with one whose frame it shifts out in part or as a whole. -/
theorem fetchShiftsOutResponse : Obligations.FetchShiftsOutResponse := by
  intro s p n c status shifted
  have shown : s.statusOut p = status := s.statusOut_eq p
  have shifts (frame : List Byte) : s.shiftResponse p frame n = shifted frame := by
    simp only [shifted, ← shown]
    rfl
  refine ⟨shown, fun init => ?_, fun running unheld => ?_, fun response running phase held => ?_⟩
  · exact congrArg Host.Outcome.next ((State.fetch_init p n init).trans (shifts _))
  · exact congrArg Host.Outcome.next ((State.fetch_none n running unheld).trans (shifts _))
  · intro code frame
    have spelled : response.frame = frame := rfl
    refine ⟨fun short => ?_, fun whole => ?_⟩
    · exact congrArg Host.Outcome.next ((State.fetch_short running phase held short).trans (shifts _))
    · refine congrArg Host.Outcome.next ((State.fetch_whole running phase held whole).trans ?_)
      rw [shifts, spelled]
      rfl

/-- Settles O51: every whole command frame is taken as a frame, which INIT discards and an EXECUTING port loses. -/
theorem commandsAreDiscardedInInitAndLostInExecuting : Obligations.CommandsAreDiscardedInInitAndLostInExecuting := by
  intro s c p body frame shifted
  obtain ⟨act, runs, _⟩ := exec_commandFrame frame
  rw [runs]
  refine ⟨fun init => congrArg _ (takeFrame_init _ _ _ _ init), fun running executing => congrArg _ ?_⟩
  rw [takeFrame_executing _ _ _ _ running executing, State.portFault_eq, PortState.fault_eq]

/-- Settles O52: the code byte and the length decide what the bytes of a transfer spell, and a command that the port takes is
answered LENGTH where its reader reads no body. -/
theorem frameCodeAndLengthAreChecked : Obligations.FrameCodeAndLengthAreChecked := by
  intro s p isBroken codes
  refine ⟨fun body fits => ?_, fun code rest command broken => ?_, fun rest => rfl,
    fun code rest running command broken => ?_, fun code body taken command absent => ?_,
    fun c body taken frame bad => ?_⟩
  · intro spells
    have named {code : Byte} {c : Instr} (row : namedCommand code p body = some c) : spells code c :=
      transferCommand_named fits row
    refine ⟨named rfl, named rfl, named rfl, named rfl, named rfl, named rfl, named rfl, named rfl, named rfl, named rfl,
      named rfl, named rfl, named rfl, named rfl, named rfl, named rfl, named rfl, named rfl, named rfl, named rfl,
      named rfl, named rfl, fun code command absent => ?_⟩
    exact (transferCommand_frame p command fits).trans (by rw [namedCommand_eq_none p body absent]; rfl)
  · exact transferCommand_broken p command ((frameBroken_iff rest).mpr broken)
  · rw [exec_badFrame p running command ((frameBroken_iff rest).mpr broken), State.portFault_eq, PortState.fault_eq]
    cases p <;> rfl
  · have unknown : codeUnknown code = true := codeUnknown_of_absent command absent
    have taken_frame := (takeFrame_taken s p body.length (·.refuse p .unknown) taken).trans (State.refuse_begun ..)
    exact congrArg Host.Outcome.next ((if_pos unknown).trans taken_frame)
  · obtain ⟨act, runs, refuses⟩ := exec_commandFrame frame
    rw [runs, takeFrame_taken _ _ _ _ taken, refuses bad, State.refuse_begun]
end

section
/-! SUPPORT. Notices (R158, R160): the highest notice of a set and its code, the byte of a set, and what returning a notice
clears. -/

namespace Sys2Proof.Machine

/-- R160: the code of the highest notice of a set, 0 for none. -/
def NoticeSet.code (x : NoticeSet) : Nat :=
  if x.portFault then 1 else if x.storeGap then 2 else if x.runChange then 3 else if x.headChange then 4
  else if x.markTrouble then 5 else if x.recordsReady then 6 else if x.recordsStale then 7 else 0

theorem byteNotice_highest (x : NoticeSet) : byteNotice x.highest = [BitVec.ofNat 8 x.code] := by
  simp only [NoticeSet.highest, NoticeSet.code]
  split_ifs <;> rfl

theorem NoticeSet.highest_isSome_iff (x : NoticeSet) :
    x.highest.isSome = true
      ↔ x.portFault ∨ x.storeGap ∨ x.runChange ∨ x.headChange ∨ x.markTrouble ∨ x.recordsReady ∨ x.recordsStale := by
  simp only [NoticeSet.highest]
  split_ifs <;> simp [*]

theorem NoticeSet.highest_eq_portFault_iff (x : NoticeSet) : x.highest = some .portFault ↔ x.portFault = true := by
  simp only [NoticeSet.highest]
  split_ifs <;> simp [*]

theorem bitAt_eq (b : Bool) (n : Nat) : bitAt b n = 2 ^ n * b.toNat := by cases b <;> simp [bitAt]

/-- R171: the number whose bit c - 1 stands for the notice of code c. -/
def NoticeSet.number (x : NoticeSet) : Nat :=
  x.portFault.toNat + 2 * x.storeGap.toNat + 4 * x.runChange.toNat + 8 * x.headChange.toNat + 16 * x.markTrouble.toNat
    + 32 * x.recordsReady.toNat + 64 * x.recordsStale.toNat

theorem byteNoticeSet_eq (x : NoticeSet) : byteNoticeSet x = [BitVec.ofNat 8 x.number] := by
  simp only [byteNoticeSet, byte1, bitAt_eq, NoticeSet.number, Nat.reducePow, Nat.one_mul]

/-- R160: which of PORT_FAULT, RUN_CHANGE and MARK_TROUBLE goes, by the code of the notice that is returned. -/
theorem PortState.clearReturned_highest (c : PortState) (x : NoticeSet) :
    c.clearReturned x.highest
      = { c with
          raised :=
            { c.raised with
              portFault := c.raised.portFault && decide (x.code ≠ 1)
              runChange := c.raised.runChange && decide (x.code ≠ 3)
              markTrouble := c.raised.markTrouble && decide (x.code ≠ 5) }
          faultCause := if x.portFault then none else c.faultCause
          faultCount := if x.portFault then 0 else c.faultCount } := by
  simp only [NoticeSet.highest, NoticeSet.code]
  split_ifs <;> simp [PortState.clearReturned]

theorem State.attn_iff (s : State) (p : Port) :
    s.attn p = true
      ↔ let x := s.pendingEnabled p
        x.portFault ∨ x.storeGap ∨ x.runChange ∨ x.headChange ∨ x.markTrouble ∨ x.recordsReady ∨ x.recordsStale :=
  NoticeSet.highest_isSome_iff _

/-- Taking a command changes no notice of the port. -/
theorem State.pendingEnabled_begun (s : State) (p : Port) (len : Nat) :
    (s.begun p len).pendingEnabled p = s.pendingEnabled p := by
  cases p <;> rfl

/-- R155: a port command changes the port, and is answered. -/
theorem State.modPort_begun_respond (s : State) (p : Port) (len : Nat) (f : PortState → PortState) (r : Response) :
    ((s.begun p len).modPort p f).respond p r
      = { s with
          ports := s.ports.set p { f ((s.begun p len).ports.get p) with phase := .responseHeld, held := some r } } := by
  simp [State.begun, State.respond, State.modPort]

/-- R172: the byte of the cause of a PORT_FAULT. -/
def faultCauseByte : Option FaultCause → Byte
  | none => 0
  | some .commandLost => 1
  | some .frame => 2

theorem byteFaultCause_eq (cause : Option FaultCause) : byteFaultCause cause = [faultCauseByte cause] := by
  obtain _ | _ | _ := cause <;> rfl

/-- R160, R172: the code and the set, and the cause and the count with PORT_FAULT. -/
theorem State.noticeBytes_eq (s : State) (p : Port) :
    s.noticeBytes p
      = [BitVec.ofNat 8 (s.pendingEnabled p).code, BitVec.ofNat 8 (s.pendingEnabled p).number]
        ++ (if (s.pendingEnabled p).portFault then
            [faultCauseByte (s.ports.get p).faultCause, BitVec.ofNat 8 (s.ports.get p).faultCount]
          else []) := by
  simp only [State.noticeBytes, NoticeSet.highest_eq_portFault_iff, byteNotice_highest, byteNoticeSet_eq,
    byteFaultCause_eq]
  rfl

theorem State.noticeBytes_begun (s : State) (p : Port) (len : Nat) :
    (s.begun p len).noticeBytes p = s.noticeBytes p := by
  cases p <;> rfl

end Sys2Proof.Machine

open Sys2Proof Sys2Proof.Machine

/-- Settles O48: ATTN is the notices both pending and enabled, and GET_NOTICE returns the highest of them. -/
theorem noticesAreEnabledAndReturned : Obligations.NoticesAreEnabledAndReturned := by
  intro s p b c r fault gap run head mark ready stale code set cause set' got enabled
  have sets (taken : s.takes p) :
      exec (.setNotices p [b]) s
        = .next (((s.begun p 1).modPort p fun c => { c with enables := readNoticeSet b }).answerOk p) :=
    congrArg Host.Outcome.next (takeCommand_taken _ _ _ _ _ taken)
  have gets (taken : s.takes p) :
      exec (.getNotice p []) s
        = .next (((s.begun p 0).modPort p (·.clearReturned ((s.begun p 0).pendingEnabled p).highest)).respond p
            (.okWith ((s.begun p 0).noticeBytes p))) :=
    congrArg Host.Outcome.next (takeCommand_taken _ _ _ _ _ taken)
  refine ⟨s.attn_iff p, fun taken => ⟨_, (sets taken).trans ?_, rfl, ?_⟩, fun taken => (gets taken).trans ?_⟩
  · refine congrArg Host.Outcome.next ?_
    rw [State.answerOk, State.modPort_begun_respond, State.begun_port]
    simp only [set', State.answered, PerPort.get_set_same, PerPort.set_set]
    rfl
  · rw [State.attn_iff]
    simp only [State.pendingEnabled, State.pendingNotices, NoticeSet.inter, set', State.answered, PerPort.get_set_same,
      Bool.and_eq_true, State.reading, Reading.recordsReady, decide_eq_true_eq]
    exact Iff.rfl
  · refine congrArg Host.Outcome.next ?_
    rw [State.pendingEnabled_begun, State.noticeBytes_begun, State.noticeBytes_eq,
      State.modPort_begun_respond, State.begun_port]
    simp only [got, State.answered, PerPort.get_set_same, PerPort.set_set, PortState.clearReturned_highest]
    rfl
end

section
/-! SUPPORT. The records of the steps of START, STOP and the end of drain (R164 to R167): what a step adds to the records that wait,
when a record stays back for one of an earlier step, and the change of run state. -/

namespace Sys2Proof.Machine

/-! ### The records that a step adds -/

/-- R164 to R167: a step that changes the state to `t` and adds records makes these the records of the step. -/
theorem State.inStep_adding {s t : State} {f : State → State} {made : List Offer} (step : EventStep)
    (adds : f s = { t with store := s.store.adding made }) :
    s.inStep step f = { t with store := s.store.adding (ofStep step made) } :=
  State.inStep_of_adds step adds rfl

/-- R133: the RUN record of a change of run state. -/
def runOffer (position : Position) (former new : RunState) (port : Option Port) : Offer :=
  plainOffer .runControl { side := none, lane := none, position := position, content := .run former new port } none

theorem State.changeRunState_eq (s : State) (new : RunState) (port : Option Port) :
    s.changeRunState new port
      = { s with
          runState := new
          ports := s.ports.all PortState.withRunChange
          store := s.store.adding [runOffer s.pos.web s.runState new port] } := rfl

/-- R164 to R167: the change of run state as a step of its own. -/
theorem State.inStep_changeRunState (s : State) (step : EventStep) (new : RunState) (port : Option Port) :
    s.inStep step (·.changeRunState new port)
      = { s with
          runState := new
          ports := s.ports.all PortState.withRunChange
          store := s.store.adding (ofStep step [runOffer s.pos.web s.runState new port]) } :=
  State.inStep_adding (t := { s with runState := new, ports := s.ports.all PortState.withRunChange }) step rfl

/-! ### The record at a writer's front -/

/-- R128: the first record that a writer made of those that wait is the one it offers, unless this stays back. -/
theorem State.front_first {s : State} {w : Writer} {o : Offer} {pre post : List Offer}
    (waiting : s.store.waiting = pre ++ o :: post) (writer : o.writer = w) (others : ∀ x ∈ pre, x.writer ≠ w) :
    s.front w = if o.held pre then none else some o := by
  have found : s.store.waiting.find? (·.writer = w) = some o :=
    List.find?_eq_some_iff_append.mpr ⟨decide_eq_true writer, pre, post, waiting, fun x mem => by simpa using others x mem⟩
  have before : s.store.waiting.takeWhile (·.writer ≠ w) = pre := by
    rw [waiting, List.takeWhile_append_of_pos fun x mem => by simpa using others x mem]
    simp [writer]
  simp only [State.front, found, before]

/-- R164 to R167: a record waits for one made before it whose step its own step follows. -/
theorem Offer.waitsFor_iff (o x : Offer) :
    o.waitsFor x = true ↔ ∃ a b, o.step = some a ∧ x.step = some b ∧ b ∈ a.follows := by
  unfold Offer.waitsFor
  cases o.step <;> cases x.step <;> simp

/-- R164 to R167: a record stays back behind one that it waits for, when no end of drain has ended in between. -/
theorem Offer.held_of_waitsFor {o x : Offer} {made : List Offer} (earlier : List Offer)
    (drained : ∀ y ∈ made, y.step ≠ some .drainRun) (mem : x ∈ made) (waits : o.waitsFor x = true) :
    o.held (earlier ++ made) = true := by
  have kept : ∀ y ∈ made.reverse, decide (y.step ≠ some .drainRun) = true := fun y mem =>
    decide_eq_true (drained y (List.mem_reverse.mp mem))
  rw [Offer.held, List.reverse_append, List.takeWhile_append_of_pos kept, List.any_append, Bool.or_eq_true]
  exact .inl (List.any_eq_true.mpr ⟨x, List.mem_reverse.mpr mem, waits⟩)

/-- R164 to R167: a record that waits for none of those before it does not stay back. -/
theorem Offer.held_eq_false {o : Offer} {made : List Offer} (free : ∀ x ∈ made, o.waitsFor x = false) :
    o.held made = false :=
  List.any_eq_false.mpr fun x mem =>
    Bool.eq_false_iff.mp (free x (List.mem_reverse.mp ((List.takeWhile_sublist _).mem mem)))

/-- A record that belongs to no step is waited for by none. -/
theorem Offer.waitsFor_plain (o : Offer) {x : Offer} (plain : x.step = none) : o.waitsFor x = false := by
  rw [Offer.waitsFor, plain]
  cases o.step <;> rfl

theorem ofStep_step {step : EventStep} {offers : List Offer} {o : Offer} (mem : o ∈ ofStep step offers) :
    o.step = some step := by
  obtain ⟨x, -, rfl⟩ := List.mem_map.mp mem
  rfl

/-- A step does not change by whom its records were made. -/
theorem ofStep_writer {step : EventStep} {offers : List Offer} {w : Writer} (others : ∀ x ∈ offers, x.writer ≠ w) :
    ∀ x ∈ ofStep step offers, x.writer ≠ w := by
  intro x mem
  obtain ⟨y, listed, rfl⟩ := List.mem_map.mp mem
  exact others y listed

/-- R164, R165: a RUN record stays back behind the records of the same event when these are of a step that its own follows. -/
theorem State.front_runControl_waits {s : State} {earlier made post : List Offer} {step former : EventStep} {o : Offer}
    (waiting : s.store.waiting = earlier ++ ofStep former made ++ o :: post) (own : o.step = some step)
    (writer : o.writer = .runControl) (follows : former ∈ step.follows) (drained : former ≠ .drainRun) (some_made : made ≠ [])
    (before : ∀ x ∈ earlier, x.writer ≠ .runControl) (others : ∀ x ∈ made, x.writer ≠ .runControl) :
    s.front .runControl = none := by
  obtain ⟨x, listed⟩ := List.exists_mem_of_ne_nil _ some_made
  have marked : { x with step := some former } ∈ ofStep former made := List.mem_map_of_mem listed
  have held : o.held (earlier ++ ofStep former made) = true :=
    Offer.held_of_waitsFor earlier (fun y mem => by simpa [ofStep_step mem] using drained) marked
      ((o.waitsFor_iff _).mpr ⟨step, former, own, rfl, follows⟩)
  rw [State.front_first waiting writer fun x mem => ?_, if_pos held]
  exact (List.mem_append.mp mem).elim (before x) (ofStep_writer others x)

/-- R165: a record behind records that belong to no step does not stay back. -/
theorem State.front_behind_plain {s : State} {w : Writer} {earlier post : List Offer} {o : Offer}
    (waiting : s.store.waiting = earlier ++ o :: post) (writer : o.writer = w)
    (plain : ∀ x ∈ earlier, x.step = none ∧ x.writer ≠ w) : s.front w = some o := by
  rw [State.front_first waiting writer fun x mem => (plain x mem).2,
    Offer.held_eq_false fun x mem => Offer.waitsFor_plain o (plain x mem).1]
  rfl

end Sys2Proof.Machine
end

section
/-! SUPPORT. The end of drain (R167): what each of its steps makes of both sides, the records of all of them, and the order in which
the arbiter takes these. -/

namespace Sys2Proof.Machine

/-- Both sides changed alike. -/
def PerSide.map {α : Type} (v : PerSide α) (f : α → α) : PerSide α := { top := f v.top, bottom := f v.bottom }

/-- The records of TOP and behind them those of BOTTOM. -/
def bothOffers (f : Side → List Offer) : List Offer := f .top ++ f .bottom

/-! ### One side (R51, R86, R103, R125) -/

/-- R101 to R104: the PINHOLE records of blobs that close with a cause other than LARGE. -/
theorem offersOf_closeBlobs_small (side : Side) (bank : LaneBank) (recipes : Recipes) {flags : PinholeFlags}
    (small : flags.large = false) (blobs : List Blob) :
    offersOf (.engine side) (closeBlobs side bank recipes flags blobs)
      = pinholeRecords side bank recipes flags.truncated flags.mapChange blobs := by
  obtain ⟨merged, large, truncated, mapChange⟩ := flags
  subst small
  induction blobs with
  | nil => rfl
  | cons x rest ih =>
    simp only [offersOf, closeBlobs, List.flatMap_cons, List.map_append] at ih ⊢
    rw [ih]
    by_cases counts : recipes[bank[x.lane].recipe].minArea ≤ x.area
    · rw [closeBlob, if_pos (by exact counts)]
      simp only [pinholeRecords, List.filter_cons, decide_eq_true counts, if_true]
      rfl
    · rw [closeBlob, if_neg (by exact counts)]
      simp only [pinholeRecords, List.filter_cons, decide_eq_false counts, Bool.false_eq_true, if_false]
      rfl

theorem State.truncateBlobs_eq (s : State) (side : Side) :
    s.truncateBlobs side
      = { s with
          eng := s.eng.set side { (s.eng.get side) with blobs := [] }
          store :=
            s.store.adding
              (pinholeRecords side (s.activeBank side) (s.eng.get side).recipes true false (s.eng.get side).blobs) } := by
  rw [State.truncateBlobs, State.offerAll_adding, offersOf_closeBlobs_small side _ _ rfl]
  rfl

theorem State.stopStreaks_eq {s : State} {side : Side} (owned : (s.eng.get side).streaksOwned) :
    s.stopStreaks side
      = { s with
          eng :=
            s.eng.set side
              { (s.eng.get side) with streaks := [], bins := quietedBins .streak (s.eng.get side).bins }
          store := s.store.adding ((s.eng.get side).streakCloseRecords side (s.activeBank side) .stop) } := by
  rw [State.stopStreaks, State.offerAll_adding, Engine.offersOf_closeStreaks side _ _ owned]
  rfl

/-- R49: the open blind runs of heads close one after the other. -/
theorem State.foldl_closeBlindRun (s : State) (side : Side) (heads : List HeadId) (nodup : heads.Nodup) :
    heads.foldl (State.closeBlindRun side) s
      = s.withBlindRuns side
          (heads.foldl (fun (v : Vector (Option BlindRun) 8) (h : HeadId) => v.set h none) (s.asm.get side).blindRuns)
          (s.blindRecords side heads) := by
  induction heads generalizing s with
  | nil =>
    simp only [List.foldl_nil, State.withBlindRuns, State.blindRecords_nil, Store.adding_nil]
    rw [PerSide.set_get]
  | cons g rest ih =>
    obtain ⟨fresh, nodup⟩ := List.nodup_cons.mp nodup
    have kept : ∀ h ∈ rest,
        ((s.closeBlindRun side g).asm.get side).blindRuns[h] = (s.asm.get side).blindRuns[h] := fun h mem => by
      have apart : (g : Nat) ≠ h := fun same => ne_of_mem_of_not_mem mem fresh (Fin.ext same.symm)
      simp [State.closeBlindRun_eq, State.withBlindRuns, apart]
    rw [List.foldl_cons, ih _ nodup, State.blindRecords_congr side rest kept, State.closeBlindRun_eq,
      State.withBlindRuns_withBlindRuns, ← State.blindRecords_cons]
    simp only [State.withBlindRuns, PerSide.get_set_same, List.foldl_cons]

theorem foldl_set_allHeads {α : Type} (v : Vector α 8) (x : α) :
    allHeads.foldl (fun (v : Vector α 8) (h : HeadId) => v.set h x) v = Vector.replicate 8 x := by
  refine Vector.ext fun i lt => ?_
  have set := foldl_set_get (fun _ => x) allHeads v ⟨i, lt⟩
  rw [if_pos (mem_allHeads _)] at set
  exact set.trans (Vector.getElem_replicate ..).symm

theorem State.closeCoverage_eq (s : State) (side : Side) :
    s.closeCoverage side
      = { s with
          asm :=
            s.asm.set side { (s.asm.get side) with dropRun := none, blindRuns := Vector.replicate 8 none }
          store := s.store.adding (s.dropRecords side ++ s.blindRecords side allHeads) } := by
  have blind : (s.closeDropRun side).blindRecords side allHeads = s.blindRecords side allHeads :=
    State.blindRecords_congr side allHeads fun h _ => by rw [State.closeDropRun_eq, PerSide.get_set_same]
  rw [State.closeCoverage, State.foldl_closeBlindRun _ side _ allHeads_nodup, foldl_set_allHeads, blind,
    State.closeDropRun_eq]
  simp only [State.withBlindRuns, PerSide.get_set_same, PerSide.set_set, Store.adding_adding]

theorem State.stopTeach_eq (s : State) (side : Side) :
    s.stopTeach side
      = { s with
          eng := s.eng.set side { (s.eng.get side) with teach := none }
          store := s.store.adding ((s.eng.get side).abortRecords side .stop s.pos.web) } := by
  unfold State.stopTeach Engine.abortRecords
  cases teach : (s.eng.get side).teach with
  | none =>
    dsimp only
    rw [← teach, PerSide.set_get, Store.adding_nil]
  | some t => exact State.offerAll_adding ..

/-! ### The steps, each on TOP and on BOTTOM (R167) -/

theorem State.inStep_truncateBlobs (s : State) :
    s.inStep .drainBlobs (·.bothSides State.truncateBlobs)
      = { s with
          eng := s.eng.map fun e => { e with blobs := [] }
          store :=
            s.store.adding
              (ofStep .drainBlobs
                (bothOffers fun side =>
                  pinholeRecords side (s.activeBank side) (s.eng.get side).recipes true false
                    (s.eng.get side).blobs)) } := by
  refine State.inStep_adding (t := { s with eng := s.eng.map fun e => { e with blobs := [] } }) _ ?_
  simp only [State.bothSides, State.truncateBlobs_eq, Store.adding_adding]
  rfl

theorem State.inStep_stopStreaks {s : State} (owned : ∀ side, (s.eng.get side).streaksOwned) :
    s.inStep .drainStreaks (·.bothSides State.stopStreaks)
      = { s with
          eng := s.eng.map fun e => { e with streaks := [], bins := quietedBins .streak e.bins }
          store :=
            s.store.adding
              (ofStep .drainStreaks
                (bothOffers fun side => (s.eng.get side).streakCloseRecords side (s.activeBank side) .stop)) } := by
  refine State.inStep_adding
    (t := { s with eng := s.eng.map fun e => { e with streaks := [], bins := quietedBins .streak e.bins } }) _ ?_
  have bottom : ((s.stopStreaks .top).eng.get .bottom).streaksOwned := by
    rw [State.stopStreaks_eq (owned .top)]
    exact owned .bottom
  rw [State.bothSides, State.stopStreaks_eq bottom]
  simp only [State.stopStreaks_eq (owned .top), Store.adding_adding]
  rfl

theorem State.inStep_closeCoverage (s : State) :
    s.inStep .drainCoverage (·.bothSides State.closeCoverage)
      = { s with
          asm := s.asm.map fun a => { a with dropRun := none, blindRuns := Vector.replicate 8 none }
          store :=
            s.store.adding
              (ofStep .drainCoverage (bothOffers fun side => s.dropRecords side ++ s.blindRecords side allHeads)) } := by
  refine State.inStep_adding
    (t := { s with asm := s.asm.map fun a => { a with dropRun := none, blindRuns := Vector.replicate 8 none } }) _ ?_
  simp only [State.bothSides, State.closeCoverage_eq, Store.adding_adding]
  rfl

theorem State.inStep_stopTeach (s : State) :
    s.inStep .drainTeach (·.bothSides State.stopTeach)
      = { s with
          eng := s.eng.map fun e => { e with teach := none }
          store :=
            s.store.adding
              (ofStep .drainTeach
                (bothOffers fun side => (s.eng.get side).abortRecords side .stop s.pos.web)) } := by
  refine State.inStep_adding (t := { s with eng := s.eng.map fun e => { e with teach := none } }) _ ?_
  simp only [State.bothSides, State.stopTeach_eq, Store.adding_adding]
  rfl

theorem State.bothSides_dropCandidates (s : State) :
    s.bothSides State.dropCandidates = { s with eng := s.eng.map Engine.discardCandidates } := rfl

theorem State.bothSides_clearBins (s : State) :
    s.bothSides State.clearBins = { s with eng := s.eng.map Engine.quietBins } := rfl

/-! ### The whole end of drain (R166, R167) -/

/-- R167 steps 1 to 5: their records, in the order of the steps. -/
def State.drainRecords (s : State) : List Offer :=
  ofStep .drainBlobs
      (bothOffers fun side =>
        pinholeRecords side (s.activeBank side) (s.eng.get side).recipes true false (s.eng.get side).blobs)
    ++ ofStep .drainStreaks
      (bothOffers fun side => (s.eng.get side).streakCloseRecords side (s.activeBank side) .stop)
    ++ ofStep .drainCoverage (bothOffers fun side => s.dropRecords side ++ s.blindRecords side allHeads)
    ++ ofStep .drainTeach (bothOffers fun side => (s.eng.get side).abortRecords side .stop s.pos.web)

theorem State.closingSteps_eq {s : State} (owned : ∀ side, (s.eng.get side).streaksOwned) :
    s.closingSteps
      = { s with
          eng := s.eng.map fun e => { e with blobs := [], streaks := [], bins := [], teach := none }
          asm := s.asm.map fun a => { a with dropRun := none, blindRuns := Vector.replicate 8 none }
          store := s.store.adding s.drainRecords } := by
  have still_owned : ∀ side, ((s.eng.map fun e => { e with blobs := [] }).get side).streaksOwned := fun side => by
    cases side with
    | top => exact owned .top
    | bottom => exact owned .bottom
  rw [State.closingSteps, State.inStep_truncateBlobs, State.inStep_stopStreaks (by exact still_owned),
    State.bothSides_dropCandidates, State.inStep_closeCoverage, State.inStep_stopTeach, State.bothSides_clearBins]
  simp only [Store.adding_adding]
  rfl

theorem State.endDrain_eq {s : State} (owned : ∀ side, (s.eng.get side).streaksOwned) :
    s.endDrain
      = { s with
          runState := .standby
          eng := s.eng.map fun e => { e with blobs := [], streaks := [], bins := [], teach := none }
          asm := s.asm.map fun a => { a with dropRun := none, blindRuns := Vector.replicate 8 none }
          ports := s.ports.all PortState.withRunChange
          store :=
            s.store.adding
              (s.drainRecords ++ ofStep .drainRun [runOffer s.pos.web s.runState .standby none]) } := by
  rw [State.endDrain, State.inStep_changeRunState, State.closingSteps_eq owned, Store.adding_adding]

theorem exec_drainEnd_due {s : State} (stopping : s.runState = .stopping) (idle : s.allIdle = true) :
    exec .drainEnd s = .next s.endDrain :=
  congrArg Host.Outcome.next (if_pos ⟨stopping, idle⟩)

/-! ### The order of the records (R166, R167) -/

/-- R166, R167: the steps that a step of the end of drain follows are those with an earlier place. -/
theorem EventStep.mem_follows_iff {a b : EventStep} {n : Nat} (place : a.drainPlace = some n) (later : 1 ≤ n) :
    b ∈ a.follows ↔ ∃ m, b.drainPlace = some m ∧ m < n := by
  cases a <;> cases place <;> cases b <;> simp [EventStep.follows, EventStep.drainPlace] at later ⊢

/-- R166, R167: a record of the end of drain waits for those whose step has an earlier place. -/
theorem Offer.waitsFor_iff_place {o x : Offer} {n : Nat} (place : o.step.bind EventStep.drainPlace = some n)
    (later : 1 ≤ n) : o.waitsFor x = true ↔ ∃ m, x.step.bind EventStep.drainPlace = some m ∧ m < n := by
  obtain ⟨a, own, place⟩ := Option.bind_eq_some_iff.mp place
  rw [Offer.waitsFor_iff, own]
  constructor
  · rintro ⟨_, b, ⟨⟩, former, follows⟩
    rw [former]
    exact (EventStep.mem_follows_iff place later).mp follows
  · rintro ⟨m, earlier, lt⟩
    obtain ⟨b, former, earlier⟩ := Option.bind_eq_some_iff.mp earlier
    exact ⟨a, b, rfl, former, (EventStep.mem_follows_iff place later).mpr ⟨m, earlier, lt⟩⟩

end Sys2Proof.Machine

open Sys2Proof Sys2Proof.Machine

/-- Settles O55: the steps of the end of drain add their records one after the other, and a record waits exactly for those whose step
has an earlier place. -/
theorem drainEndClosesRun : Obligations.DrainEndClosesRun := by
  refine ⟨fun s stopping sides => ?_, fun s pre post o n waiting others place => ⟨?_, fun later free => ?_⟩⟩
  · have idle : s.allIdle = true := s.allIdle_iff.mpr fun side => by
      obtain ⟨slots, queue, inFlight, -⟩ := sides side
      exact ⟨slots, queue, inFlight⟩
    have owned : ∀ side, (s.eng.get side).streaksOwned := fun side => (sides side).2.2.2
    intro both heads
    rw [exec_drainEnd_due stopping idle, State.endDrain_eq owned, stopping]
    rfl
  · rintro ⟨x, mem, m, earlier, lt⟩
    have waits : o.waitsFor x = true := (Offer.waitsFor_iff_place place (by omega)).mpr ⟨m, earlier, lt⟩
    rw [State.front_first waiting rfl fun y listed => (others y listed).1]
    exact if_pos (Offer.held_of_waitsFor [] (fun y listed => (others y listed).2) mem waits)
  · have stays : o.held pre = false := Offer.held_eq_false fun x mem => by
      refine Bool.eq_false_iff.mpr fun waits => ?_
      obtain ⟨m, earlier, lt⟩ := (Offer.waitsFor_iff_place place later).mp waits
      exact absurd lt (Nat.not_lt.mpr (free x mem m earlier))
    rw [State.front_first waiting rfl fun y listed => (others y listed).1, stays]
    rfl
end

section
/-! SUPPORT. Power-on and the RESET pin (R163, R168), and the end of INIT (R162, R163). -/

namespace Sys2Proof.Machine

/-! ### Resets (R163, R168) -/

/-- R163: beside the levels on ENC_A and ENC_B, power-on sets what the state after power-on holds. -/
theorem State.enterInit_hasResetValues (s : State) (encA encB : Bool) : (s.enterInit encA encB).hasResetValues encA encB :=
  ⟨PositionUnit.atReset_hasResetValues encA encB, State.reset_hasResetValues.2⟩

theorem State.enterInit_hasPowerOnTables (s : State) (encA encB : Bool) : (s.enterInit encA encB).hasPowerOnTables :=
  State.reset_hasPowerOnTables

theorem State.resetPinned_marker (s : State) (encA encB : Bool) (k : MarkerId) :
    (s.resetPinned encA encB).marker k = Marker.atReset (s.marker k).record := s.markersRetained_get k

/-- R168: the RESET pin outside INIT sets every block as power-on does, but for the retained tables. -/
theorem State.resetPinned_hasResetValues (s : State) (encA encB : Bool) :
    (s.resetPinned encA encB).hasResetValues encA encB := by
  obtain ⟨pos, heads, sides, -, store, -, -, ports⟩ := s.enterInit_hasResetValues encA encB
  refine ⟨pos, heads, fun side => ⟨(sides side).1, ?_⟩, LaneMap.atReset_hasResetValues _ _, store, rfl, fun k => ?_, ports⟩
  · cases side with
    | top => exact Engine.atReset_hasResetValues s.eng.top.cal s.eng.top.binWidth
    | bottom => exact Engine.atReset_hasResetValues s.eng.bottom.cal s.eng.bottom.binWidth
  · rw [State.resetPinned_marker]
    exact Marker.atReset_hasResetValues _

/-- R168: the RESET pin outside INIT keeps the retained tables. -/
theorem State.resetPinned_sameTables (s : State) (encA encB : Bool) : s.sameTables (s.resetPinned encA encB) := by
  refine ⟨rfl, rfl, fun side => ?_, fun k => ?_⟩
  · cases side <;> exact ⟨rfl, rfl⟩
  · rw [State.resetPinned_marker]
    rfl

theorem exec_resetPin_init {s : State} (init : s.runState = .init) (encA encB : Bool) :
    exec (.resetPin encA encB) s = .next (s.enterInit encA encB) := congrArg Host.Outcome.next (if_pos init)

theorem exec_resetPin_running {s : State} (running : s.runState ≠ .init) (encA encB : Bool) :
    exec (.resetPin encA encB) s = .next (s.resetPinned encA encB) := congrArg Host.Outcome.next (if_neg running)

/-! ### The end of INIT (R154, R162, R163) -/

theorem State.statusByte_init {s : State} (init : s.runState = .init) (p : Port) : s.statusByte p = 0xA0 := if_pos init

/-- R154, R162: a port at the end of INIT; a transfer in progress has shown the former status. -/
def PortState.atInitEnd (c : PortState) (draw : Nat) : PortState :=
  { PortState.atReset with
    dataOut := c.dataOut
    shownStatus := c.shownStatus.or (if Config.transferBegun draw then some 0xA0 else none) }

/-- R154, R162: one port takes its state of the end of INIT. -/
theorem State.initEndPort_eq {s : State} (init : s.runState = .init) (p : Port) :
    ((s.noteTransfer p).modPort p fun c =>
        { PortState.atReset with dataOut := c.dataOut, shownStatus := c.shownStatus })
      = { s with
          freeDraws := s.freeDraws + 1
          ports := s.ports.set p ((s.ports.get p).atInitEnd s.freeDraws) } := by
  simp only [State.noteTransfer, State.modPort, State.statusByte_init init, PerPort.get_set_same, PerPort.set_set]
  rfl

theorem exec_initEnd_init {s : State} (init : s.runState = .init) :
    exec .initEnd s
      = .next
          ({ s with
              freeDraws := s.freeDraws + 3
              ports :=
                { a := s.ports.a.atInitEnd s.freeDraws
                  b := s.ports.b.atInitEnd (s.freeDraws + 1)
                  c := s.ports.c.atInitEnd (s.freeDraws + 2) } }.changeRunState .standby none) := by
  refine congrArg Host.Outcome.next ((if_pos init).trans ?_)
  congr 1
  rw [State.atEachPort, State.initEndPort_eq init, State.initEndPort_eq (by exact init), State.initEndPort_eq (by exact init)]
  rfl

end Sys2Proof.Machine

open Sys2Proof Sys2Proof.Machine

/-- Settles O6: each port takes its state, and the run state changes with its RUN record and RUN_CHANGE. -/
theorem initEndEntersStandby : Obligations.InitEndEntersStandby := by
  intro s init port
  rw [exec_initEnd_init init, State.changeRunState_eq, ← init]
  rfl

/-- Settles O5: power-on is the state after power-on; the RESET pin is this in INIT, and keeps the tables outside it. -/
theorem resetsSetEveryBlock : Obligations.ResetsSetEveryBlock := by
  intro s encA encB
  have values := s.enterInit_hasResetValues encA encB
  have tables := s.enterInit_hasPowerOnTables encA encB
  exact ⟨⟨_, rfl, rfl, values, tables, rfl⟩,
    fun init => ⟨_, exec_resetPin_init init encA encB, rfl, values, tables, rfl⟩,
    fun running => ⟨_, exec_resetPin_running running encA encB, rfl, s.resetPinned_hasResetValues encA encB,
      s.resetPinned_sameTables encA encB, rfl⟩⟩
end

section
/-! SUPPORT. STOP (R12, R165, R166): the SKIPPED record, the change of run state, and the order of their records. -/

namespace Sys2Proof.Machine

/-- R12: the SKIPPED record of an open skipped run. -/
def State.skippedRecords (s : State) : List Offer :=
  match s.pos.skipped with
  | none => []
  | some k =>
    [plainOffer .positionUnit
      { side := none, lane := none, position := k.first, content := .skipped k.last k.count k.preceding } none]

theorem State.closeSkipped_eq (s : State) :
    s.closeSkipped
      = { s with pos := { s.pos with skipped := none }, store := s.store.adding s.skippedRecords } := by
  unfold State.closeSkipped State.skippedRecords
  cases skipped : s.pos.skipped with
  | none =>
    dsimp only
    rw [← skipped, Store.adding_nil]
  | some k => rfl

theorem State.skippedRecords_writer (s : State) : ∀ o ∈ s.skippedRecords, o.writer = .positionUnit := by
  unfold State.skippedRecords
  split <;> simp [plainOffer]

/-- R165, R166: the step of the RUN record of a STOP, by whether it finds all four idle reports. -/
def stopStep (idle : Bool) : EventStep := if idle then .stopRunIdle else .stopRun

theorem stopRecords_mem_follows (idle : Bool) : EventStep.stopRecords ∈ (stopStep idle).follows := by
  cases idle <;> decide

/-- R165, R166: the records of a STOP. -/
def State.stopOffers (s : State) (p : Port) : List Offer :=
  ofStep .stopRecords s.skippedRecords
    ++ ofStep (stopStep s.allIdle) [runOffer s.pos.web .inspecting .stopping (some p)]

theorem State.stopRun_eq {s : State} (inspecting : s.runState = .inspecting) (p : Port) :
    s.stopRun p
      = { s with
          runState := .stopping
          pos := { s.pos with skipped := none }
          ports := s.ports.all PortState.withRunChange
          store := s.store.adding (s.stopOffers p) }.answerOk p := by
  have skips : s.inStep .stopRecords State.closeSkipped
      = { s with
          pos := { s.pos with skipped := none }
          store := s.store.adding (ofStep .stopRecords s.skippedRecords) } :=
    State.inStep_adding (t := { s with pos := { s.pos with skipped := none } }) _ s.closeSkipped_eq
  rw [State.stopRun, skips, State.inStep_changeRunState, inspecting, Store.adding_adding]
  rfl

/-- R155: the OK of a command that has changed the run state, seen from before the command. -/
theorem State.answerOk_runState (s : State) (p : Port) (len : Nat) (new : RunState) (pos : PositionUnit) (store : Store) :
    ({ s.begun p len with
        runState := new, pos := pos, ports := (s.begun p len).ports.all PortState.withRunChange, store := store } :
        State).answerOk p
      = { s.answered p len { code := .ok, body := [] } with
          runState := new
          pos := pos
          ports := (s.answered p len { code := .ok, body := [] }).ports.all PortState.withRunChange
          store := store } := by
  cases p <;> rfl

/-- R165: STOP at a port that takes it. -/
theorem exec_stop_taken {s : State} {p : Port} (taken : s.takes p) :
    exec (.stop p []) s
      = .next (if s.runState ≠ .inspecting then s.refused p 0 .state else (s.begun p 0).stopRun p) := by
  refine congrArg Host.Outcome.next ((takeCommand_taken s p [] readNothing _ taken).trans ?_)
  exact ite_congr rfl (fun _ => State.refuse_begun ..) fun _ => rfl

/-- R165, R166: STOP in INSPECTING. -/
theorem exec_stop_inspecting {s : State} {p : Port} (taken : s.takes p) (inspecting : s.runState = .inspecting) :
    exec (.stop p []) s
      = .next
          { s.answered p 0 { code := .ok, body := [] } with
            runState := .stopping
            pos := { s.pos with skipped := none }
            ports := (s.answered p 0 { code := .ok, body := [] }).ports.all PortState.withRunChange
            store := s.store.adding (s.stopOffers p) } := by
  rw [exec_stop_taken taken, if_neg (not_not_intro inspecting), State.stopRun_eq (by exact inspecting)]
  exact congrArg Host.Outcome.next (s.answerOk_runState p 0 _ _ _)

end Sys2Proof.Machine

open Sys2Proof Sys2Proof.Machine

/-- Settles O54: the SKIPPED record and the RUN record are those of the steps of STOP, of which the second follows the first. -/
theorem stopEndsTriggerIssue : Obligations.StopEndsTriggerIssue := by
  intro s p taken isIdle run skipped answered
  have idle : s.allIdle = (isIdle .top && isIdle .bottom) := by
    simp only [State.allIdle, Assembler.idle, Engine.idle, isIdle, PerSide.get]
    ac_rfl
  have runs : run = ofStep (stopStep s.allIdle) [runOffer s.pos.web .inspecting .stopping (some p)] := by
    rw [idle]
    rfl
  have skips : skipped = ofStep .stopRecords s.skippedRecords := by
    simp only [skipped, State.skippedRecords]
    cases s.pos.skipped <;> rfl
  refine ⟨fun other => (exec_stop_taken taken).trans (congrArg _ (if_pos other)), fun inspecting =>
    ⟨_, exec_stop_inspecting taken inspecting, by rw [runs, skips]; rfl, fun some_skipped before => ?_,
      fun none_skipped before => ?_⟩⟩
  · have made : s.skippedRecords ≠ [] := fun nothing => some_skipped (by rw [skips, nothing]; rfl)
    refine State.front_runControl_waits (List.append_assoc ..).symm rfl rfl (stopRecords_mem_follows s.allIdle) (by decide)
      made before fun x mem => ?_
    rw [s.skippedRecords_writer x mem]
    decide
  · have waiting : s.store.waiting ++ s.stopOffers p = s.store.waiting ++ run := by
      rw [State.stopOffers, ← runs, ← skips, none_skipped, List.nil_append]
    exact State.front_behind_plain (post := []) waiting rfl before
end

section
/-! SUPPORT. The heads at START (R33, R34), and the changeover at once of sides without blobs, streaks and bins (R64, R65). -/

namespace Sys2Proof.Machine

/-! ### The heads (R33, R34) -/

/-- R33: a head at START. -/
def Head.started (r : Head) : Head :=
  { r with
    state := if r.state = .mute then .live else r.state
    misses := if r.state = .mute ∨ r.state = .live then 0 else r.misses }

/-- R33, R34: the HEAD_STATE records of those of these heads that START returns to LIVE. -/
def State.wakeRecords (s : State) (heads : List HeadId) : List Offer :=
  (heads.filter fun h => decide ((s.head h).state = .mute)).map fun h =>
    s.headStateOffer h (s.head h).geometry.side .mute .live .start

theorem State.wakeRecords_cons (s : State) (h : HeadId) (heads : List HeadId) :
    s.wakeRecords (h :: heads) = s.wakeRecords [h] ++ s.wakeRecords heads := by
  simp [State.wakeRecords, ← List.map_append, ← List.filter_append]

theorem State.wakeRecords_congr {s t : State} (pos : t.pos = s.pos) {heads : List HeadId}
    (same : ∀ h ∈ heads, t.head h = s.head h) : t.wakeRecords heads = s.wakeRecords heads := by
  have muted : (heads.filter fun h => decide ((t.head h).state = .mute))
      = heads.filter fun h => decide ((s.head h).state = .mute) :=
    List.filter_congr fun h mem => by rw [same h mem]
  rw [State.wakeRecords, State.wakeRecords, muted]
  refine List.map_congr_left fun h mem => ?_
  rw [same h (List.mem_of_mem_filter mem), State.headStateOffer, pos]
  rfl

theorem State.startHead_eq (s : State) (h : HeadId) :
    s.startHead h = s.withHeads (vecModify s.heads h Head.started) (s.wakeRecords [h]) := by
  unfold State.startHead
  cases state : (s.head h).state with
  | mute =>
    have head : ({ (s.head h) with misses := 0, state := .live } : Head) = (s.head h).started := by
      simp [Head.started, state]
    have record : s.wakeRecords [h] = [s.headStateOffer h (s.head h).geometry.side .mute .live .start] := by
      simp [State.wakeRecords, state]
    have woken := s.setHeadState_modHead h (fun r => { r with misses := 0 }) .live .start (by simp [state])
    rw [record]
    refine woken.trans ?_
    rw [head, state]
    rfl
  | live =>
    have head : ({ (s.head h) with misses := 0 } : Head) = (s.head h).started := by simp [Head.started, state]
    rw [State.setMisses_eq, vecModify_congr (g := Head.started) _ _ head]
    simp [State.wakeRecords, state]
  | off | absent =>
    have head : (s.head h).started = s.head h := by
      rw [Head.started, if_neg (by simp [state]), if_neg (by simp [state])]
    rw [vecModify_eq_self _ _ _ head]
    simp [State.wakeRecords, state, State.withHeads]

theorem State.foldl_startHead (s : State) (heads : List HeadId) (nodup : heads.Nodup) :
    ∃ after : Vector Head 8,
      heads.foldl State.startHead s = s.withHeads after (s.wakeRecords heads)
        ∧ ∀ h : HeadId, after[h] = if h ∈ heads then (s.head h).started else s.head h := by
  induction heads generalizing s with
  | nil => exact ⟨s.heads, by simp [State.withHeads, State.wakeRecords], fun h => by simp [State.head]⟩
  | cons g rest ih =>
    obtain ⟨fresh, nodup⟩ := List.nodup_cons.mp nodup
    have head_g : ∀ h, (s.startHead g).head h = if h = g then (s.head h).started else s.head h := fun h => by
      rw [State.startHead_eq]
      exact vecModify_get s.heads g h _
    have kept : ∀ h ∈ rest, (s.startHead g).head h = s.head h := fun h mem => by
      rw [head_g, if_neg (ne_of_mem_of_not_mem mem fresh)]
    obtain ⟨after, eq, heads⟩ := ih (s.startHead g) nodup
    have pos : (s.startHead g).pos = s.pos := by rw [State.startHead_eq, State.withHeads]
    refine ⟨after, ?_, fun h => ?_⟩
    · rw [List.foldl_cons, eq, State.wakeRecords_congr pos kept, State.startHead_eq, State.withHeads_withHeads,
        ← State.wakeRecords_cons]
    · rw [heads, head_g]
      by_cases here : h = g
      · subst here
        simp [fresh]
      · simp [here]

/-- R33, R34: all heads at START. -/
theorem State.foldl_startHead_all (s : State) :
    allHeads.foldl State.startHead s = s.withHeads (s.heads.map Head.started) (s.wakeRecords allHeads) := by
  obtain ⟨after, eq, heads⟩ := s.foldl_startHead allHeads allHeads_nodup
  have mapped : after = s.heads.map Head.started := Vector.ext fun i lt => by
    have head := heads ⟨i, lt⟩
    rw [if_pos (mem_allHeads _)] at head
    exact head.trans (Vector.getElem_map ..).symm
  rw [eq, mapped]

/-! ### The changeover of sides at rest (R64, R65) -/

/-- R64, R125: no blob, streak or bin of either side stands. -/
def State.enginesClear (s : State) : Prop :=
  ∀ side, (s.eng.get side).blobs = [] ∧ (s.eng.get side).streaks = [] ∧ (s.eng.get side).bins = []

/-- R65: the sides without an enabled head. -/
def State.headless (s : State) : PerSide Bool := { top := !s.hasHead .top, bottom := !s.hasHead .bottom }

/-- R65: a side that waits for the switch changes over. -/
def SwitchRecord.changes (w : SwitchRecord) (now : PerSide Bool) (side : Side) : Bool :=
  !w.switched.get side && now.get side

/-- R64 step 5: the BANK_SWITCHED record of a side that changes over at once. -/
def SwitchRecord.offer (w : SwitchRecord) (position : Position) (side : Side) : Offer :=
  plainOffer .laneMap
    { side := some side, lane := none, position := position, content := .bankSwitched (w.target.get side) w.mode } none

theorem State.changeOverIf_clear {s : State} (clear : s.enginesClear) {w : SwitchRecord} (now : PerSide Bool) (side : Side)
    (pending : s.lanes.switch = some w) :
    s.changeOverIf side (now.get side)
      = { s with
          lanes :=
            { s.lanes with
              active :=
                s.lanes.active.set side (if w.changes now side then w.target.get side else s.lanes.active.get side)
              switch := some { w with switched := w.switched.set side (w.switched.get side || now.get side) } }
          store := s.store.adding (if w.changes now side then [w.offer s.pos.web side] else []) } := by
  obtain ⟨blobs, streaks, bins⟩ := clear side
  cases done : w.switched.get side with
  | false =>
    have waits : s.unswitched side = some w := (s.unswitched_eq_some_iff side w).mpr ⟨pending, done⟩
    have same : w.changes now side = now.get side := by simp [SwitchRecord.changes, done]
    rw [State.changeOverIf_waiting _ waits, State.atOnceOffers_of_empty w blobs bins,
      Engine.changedOver_of_empty blobs streaks bins, ite_self, PerSide.set_get, same, Bool.false_or]
    rfl
  | true =>
    have none_waits : s.unswitched side = none := by simp [State.unswitched, pending, done]
    have stays : w.changes now side = false := by simp [SwitchRecord.changes, done]
    have switched : w.switched.set side true = w.switched := by rw [← done, PerSide.set_get]
    simp only [State.changeOverIf, none_waits, stays, Bool.true_or, switched, Bool.false_eq_true, if_false,
      PerSide.set_get, Store.adding_nil, ← pending]

/-- R65: the lane map when the sides for which `now` holds have changed over, and a request that both have completed is gone. -/
def LaneMap.changedOverAt (l : LaneMap) (now : PerSide Bool) : LaneMap :=
  match l.switch with
  | none => l
  | some w =>
    { l with
      active :=
        { top := if w.changes now .top then w.target.top else l.active.top
          bottom := if w.changes now .bottom then w.target.bottom else l.active.bottom }
      switch :=
        if (w.switched.top || now.top) && (w.switched.bottom || now.bottom) then none
        else
          some
            { w with
              switched := { top := w.switched.top || now.top, bottom := w.switched.bottom || now.bottom } } }

/-- R64, R65: the BANK_SWITCHED records of those sides. -/
def LaneMap.switchOffers (l : LaneMap) (now : PerSide Bool) (position : Position) : List Offer :=
  match l.switch with
  | none => []
  | some w => ([.top, .bottom].filter (w.changes now)).map (w.offer position)

theorem SwitchRecord.offers_eq (w : SwitchRecord) (now : PerSide Bool) (position : Position) :
    ([.top, .bottom].filter (w.changes now)).map (w.offer position)
      = (if w.changes now .top then [w.offer position .top] else [])
        ++ if w.changes now .bottom then [w.offer position .bottom] else [] := by
  cases top : w.changes now .top <;> cases bottom : w.changes now .bottom <;> simp [top, bottom]

theorem State.changeOverHeadless_clear {s : State} (clear : s.enginesClear) :
    s.changeOverHeadless
      = { s with
          lanes := s.lanes.changedOverAt s.headless
          store := s.store.adding (s.lanes.switchOffers s.headless s.pos.web) } := by
  cases pending : s.lanes.switch with
  | none =>
    have stays : ∀ side now, s.changeOverIf side now = s := fun side now => by
      simp [State.changeOverIf, State.unswitched, pending]
    simp only [State.changeOverHeadless, stays, State.completeSwitch, pending, LaneMap.changedOverAt, LaneMap.switchOffers,
      Store.adding_nil]
  | some w =>
    have top := State.changeOverIf_clear clear s.headless .top pending
    have bottom := State.changeOverIf_clear (s := s.changeOverIf .top (s.headless.get .top))
      (by rw [top]; exact clear) s.headless .bottom (by rw [top])
    have both : s.changeOverHeadless
        = ((s.changeOverIf .top (s.headless.get .top)).changeOverIf .bottom (s.headless.get .bottom)).completeSwitch := rfl
    rw [both, State.completeSwitch_pending (by rw [bottom]), bottom, top]
    simp only [LaneMap.changedOverAt, LaneMap.switchOffers, pending, Store.adding_adding, SwitchRecord.offers_eq]
    rfl

end Sys2Proof.Machine
end

section
/-! SUPPORT. START (R10, R164): its steps in a part at rest, what it is refused for, and what can be read of the state after it. -/

namespace Sys2Proof.Machine

/-! ### Steps 1 to 3 (R164) -/

/-- R33: the heads alone as START leaves them. -/
def State.woken (s : State) : State := { s with heads := s.heads.map Head.started }

theorem State.woken_head (s : State) (h : HeadId) : s.woken.head h = (s.head h).started := Vector.getElem_map ..

theorem State.woken_headOn (s : State) (side : Side) : s.woken.headOn side = s.headOn side :=
  State.headOn_congr (fun h => by rw [State.woken_head]; rfl) side

theorem State.woken_hasHead (s : State) (side : Side) : s.woken.hasHead side = s.hasHead side := by
  rw [State.hasHead, State.woken_headOn, State.hasHead]

theorem State.woken_headless (s : State) : s.woken.headless = s.headless := by
  simp only [State.headless, State.woken_hasHead]

/-- R125: without bins there is no accumulator to clear. -/
theorem State.modEng_clearAccumulators {s : State} {side : Side} (bins : (s.eng.get side).bins = []) :
    s.modEng side (·.clearAccumulators) = s := by
  have same : (s.eng.get side).clearAccumulators = s.eng.get side := by
    rw [Engine.clearAccumulators, bins, List.map_nil, List.filter_nil, ← bins]
  rw [State.modEng, same, PerSide.set_get]

/-- R33, R34, R65: the records of START before its RUN record. -/
def State.startOffers (s : State) : List Offer :=
  s.wakeRecords allHeads ++ s.lanes.switchOffers s.headless s.pos.web

/-- R34: the ports when these heads have returned to LIVE. -/
def State.portsWoken (s : State) : PerPort PortState :=
  if s.wakeRecords allHeads = [] then s.ports else s.ports.all PortState.withHeadChange

theorem State.inStep_prepareStart {s : State} (clear : s.enginesClear) :
    s.inStep .startRecords State.prepareStart
      = { s with
          heads := s.heads.map Head.started
          lanes := s.lanes.changedOverAt s.headless
          ports := s.portsWoken
          store := s.store.adding (ofStep .startRecords s.startOffers) } := by
  let woken := s.withHeads (s.heads.map Head.started) (s.wakeRecords allHeads)
  have headless : woken.headless = s.headless := s.woken_headless
  refine State.inStep_adding
    (t := { s with
            heads := s.heads.map Head.started, lanes := s.lanes.changedOverAt s.headless, ports := s.portsWoken }) _ ?_
  rw [State.prepareStart, State.foldl_startHead_all]
  change ((woken.modEng .top (·.clearAccumulators)).modEng .bottom (·.clearAccumulators)).changeOverHeadless = _
  rw [State.modEng_clearAccumulators (s := woken) (clear .top).2.2,
    State.modEng_clearAccumulators (s := woken) (clear .bottom).2.2, State.changeOverHeadless_clear (s := woken) clear,
    headless]
  simp only [woken, State.withHeads, Store.adding_adding]
  rfl

/-! ### The SYNC trigger (R10, R38) -/

/-- R7, R8, R10: the position unit at START. -/
def PositionUnit.synced (u : PositionUnit) : PositionUnit :=
  { u with
    pitch := u.pendingPitch.getD u.pitch
    pendingPitch := none
    divider := u.pendingPitch.getD u.pitch
    highWater := u.web
    lineNumber := 0
    sinceTrigger := 0
    trigPulses := u.trigPulses + 1
    syncPulses := u.syncPulses + 1 }

/-- R38: the assembler of a side that has room, when a trigger has reached it. -/
def State.triggeredAsm (s : State) (side : Side) (line : LineNo) (trigger : Position) : Assembler :=
  if s.hasHead side then
    { (s.asm.get side) with slots := (s.asm.get side).slots ++ [s.newSlot side line trigger] }
  else s.asm.get side

theorem State.openSlot_room {s : State} {side : Side} (line : LineNo) (trigger : Position)
    (room : (s.asm.get side).slots.length < 4) :
    s.openSlot side line trigger = { s with asm := s.asm.set side (s.triggeredAsm side line trigger) } := by
  cases on : s.hasHead side with
  | false => rw [s.openSlot_headless side line trigger on, State.triggeredAsm, on, if_neg (by decide), PerSide.set_get]
  | true =>
    have same : s.roomMade side = s := if_pos room
    rw [s.openSlot_eq side line trigger on, same, State.triggeredAsm, if_pos on]
    rfl

theorem State.openSlots_room {s : State} (line : LineNo) (trigger : Position)
    (room : ∀ side, (s.asm.get side).slots.length < 4) :
    s.openSlots line trigger
      = { s with
          asm := { top := s.triggeredAsm .top line trigger, bottom := s.triggeredAsm .bottom line trigger } } := by
  rw [State.openSlots, State.openSlot_room line trigger (room .top),
    State.openSlot_room line trigger (by exact room .bottom)]
  rfl

theorem State.syncTrigger_eq {s : State} (empty : ∀ side, (s.asm.get side).slots = []) :
    s.syncTrigger
      = { s with
          pos := s.pos.synced
          asm := { top := s.triggeredAsm .top 0 s.pos.web, bottom := s.triggeredAsm .bottom 0 s.pos.web } } := by
  have room : ∀ side, (s.asm.get side).slots.length < 4 := fun side => by
    rw [empty]
    decide
  exact State.openSlots_room (s := s.modPos fun _ => s.pos.synced) 0 s.pos.web room

/-! ### The whole of START (R164) -/

/-- R164: the state in which START is answered. -/
def State.started (s : State) (p : Port) : State :=
  { s.woken with
    runState := .inspecting
    pos := s.pos.synced
    asm := { top := s.woken.triggeredAsm .top 0 s.pos.web, bottom := s.woken.triggeredAsm .bottom 0 s.pos.web }
    lanes := s.lanes.changedOverAt s.headless
    ports := s.portsWoken.all PortState.withRunChange
    store :=
      s.store.adding
        (ofStep .startRecords s.startOffers
          ++ ofStep .startRun [runOffer s.pos.web .standby .inspecting (some p)]) }

theorem State.startRun_eq {s : State} (standby : s.runState = .standby) (rests : s.restsOutsideRuns) (p : Port) :
    s.startRun p = (s.started p).answerOk p := by
  have clear : s.enginesClear := fun side => by
    obtain ⟨-, -, -, blobs, streaks, bins, -⟩ := (rests side).2 (.inr standby)
    exact ⟨blobs, streaks, bins⟩
  have empty : ∀ side, (s.asm.get side).slots = [] := fun side => ((rests side).2 (.inr standby)).1
  rw [State.startRun, State.inStep_prepareStart clear, State.syncTrigger_eq (by exact empty), State.inStep_changeRunState,
    standby, Store.adding_adding]
  rfl

/-! ### What START is refused for (R58, R164) -/

theorem State.startBanksValid_eq_false_iff (s : State) (side : Side) :
    s.startBanksValid side = false ↔
      bankValid (s.activeBank side) = false
        ∨ ∃ w : SwitchRecord, s.lanes.switch = some w ∧ w.switched.get side = false
            ∧ bankValid ((s.lanes.banks.get side).get (w.target.get side)) = false := by
  simp only [← and_assoc, ← State.unswitched_eq_some_iff]
  rw [State.startBanksValid, Bool.and_eq_false_iff]
  cases s.unswitched side <;> simp

/-- R164: the head that START asks for is missing. -/
theorem noHeadEnabled_iff (s : State) :
    (!allHeads.any fun h => (s.head h).geometry.enabled) = true ↔ ¬∃ h : HeadId, (s.head h).geometry.enabled = true := by
  simp [mem_allHeads]

theorem banksRefused_iff (s : State) :
    (!(s.startBanksValid .top && s.startBanksValid .bottom)) = true ↔ ∃ side, s.startBanksValid side = false := by
  rw [Bool.not_eq_true', Bool.and_eq_false_iff]
  exact ⟨fun | .inl top => ⟨.top, top⟩ | .inr bottom => ⟨.bottom, bottom⟩,
    fun | ⟨.top, top⟩ => .inl top | ⟨.bottom, bottom⟩ => .inr bottom⟩

/-- R164: START at a port that takes it: the checks in their order. -/
theorem exec_start_taken {s : State} {p : Port} (taken : s.takes p) :
    exec (.start p []) s
      = .next
          (if s.runState ≠ .standby then s.refused p 0 .state
          else if !allHeads.any fun h => (s.head h).geometry.enabled then s.refused p 0 .noHeads
          else if !(s.startBanksValid .top && s.startBanksValid .bottom) then s.refused p 0 .invalidMap
          else (s.begun p 0).startRun p) := by
  refine congrArg Host.Outcome.next ((takeCommand_taken s p [] readNothing _ taken).trans ?_)
  exact ite_congr rfl (fun _ => State.refuse_begun ..) fun _ =>
    ite_congr rfl (fun _ => State.refuse_begun ..) fun _ => ite_congr rfl (fun _ => State.refuse_begun ..) fun _ => rfl

/-! ### The state after START, read (R164) -/

theorem LaneMap.changedOverAt_active (l : LaneMap) (now : PerSide Bool) (side : Side) :
    (l.changedOverAt now).active.get side
      = match l.switch with
        | some w => if w.changes now side then w.target.get side else l.active.get side
        | none => l.active.get side := by
  unfold LaneMap.changedOverAt
  cases l.switch with
  | none => rfl
  | some w => cases side <;> rfl

/-- R65: beside the active banks and the switch the lane map stays. -/
theorem LaneMap.changedOverAt_rest (l : LaneMap) (now : PerSide Bool) :
    (l.changedOverAt now).arrivals = l.arrivals ∧ (l.changedOverAt now).recipes = l.recipes
      ∧ (l.changedOverAt now).banks = l.banks := by
  unfold LaneMap.changedOverAt
  cases l.switch <;> exact ⟨rfl, rfl, rfl⟩

theorem LaneMap.changedOverAt_switch {l : LaneMap} {w : SwitchRecord} (now : PerSide Bool) (pending : l.switch = some w) :
    (l.changedOverAt now).switch
      = let switched : PerSide Bool := { top := w.switched.top || now.top, bottom := w.switched.bottom || now.bottom }
        if switched = { top := true, bottom := true } then none else some { w with switched := switched } := by
  simp only [LaneMap.changedOverAt, pending]
  refine if_congr ?_ rfl rfl
  rw [PerSide.mk.injEq, Bool.and_eq_true]

theorem State.portsWoken_headChange (s : State) (q : Port) :
    (s.portsWoken.get q).raised.headChange = ((s.ports.get q).raised.headChange || !(s.wakeRecords allHeads).isEmpty) := by
  cases woken : s.wakeRecords allHeads with
  | nil => simp [State.portsWoken, woken]
  | cons o rest => simp [State.portsWoken, woken, PortState.withHeadChange]

theorem State.portsWoken_phase (s : State) (q : Port) : (s.portsWoken.get q).phase = (s.ports.get q).phase := by
  rw [State.portsWoken]
  split
  · rfl
  · rw [PerPort.get_all]
    rfl

theorem State.triggeredAsm_slots {s : State} {side : Side} (empty : (s.asm.get side).slots = []) (line : LineNo)
    (trigger : Position) :
    (s.triggeredAsm side line trigger).slots = if s.hasHead side then [s.newSlot side line trigger] else [] := by
  rw [State.triggeredAsm]
  split
  · exact congrArg (· ++ [s.newSlot side line trigger]) empty
  · exact empty

/-- R13, R38: the slot that the SYNC trigger opens in the assembler of a side. -/
theorem State.newSlot_fields (s : State) (side : Side) (line : LineNo) (trigger : Position) :
    let slot := s.newSlot side line trigger
    slot.line = line ∧ slot.position = trigger - BitVec.ofNat 32 (s.pos.offset.get side)
      ∧ slot.deadline = s.now + (s.asm.get side).headWait ∧ slot.ready = false
      ∧ ∀ h : HeadId,
        slot.contributions[h] = none ∧ (h ∈ slot.expected ↔ s.headOn side h = true ∧ (s.head h).state = .live)
          ∧ (h ∈ slot.absent ↔ s.headOn side h = true ∧ (s.head h).state = .absent) := by
  simp [State.newSlot, State.linePosition]

theorem State.started_asm (s : State) (p : Port) (side : Side) :
    (s.started p).asm.get side = s.woken.triggeredAsm side 0 s.pos.web := by
  cases side <;> rfl

/-- R164: the port state that START leaves. -/
theorem State.started_port (s : State) (p q : Port) :
    ((s.started p).ports.get q) = (s.portsWoken.get q).withRunChange := PerPort.get_all ..

theorem State.answerOk_raised (s : State) (p q : Port) :
    ((s.answerOk p).ports.get q).raised = (s.ports.get q).raised := by
  cases p <;> cases q <;> rfl

theorem State.begun_raised (s : State) (p q : Port) (len : Nat) :
    ((s.begun p len).ports.get q).raised = (s.ports.get q).raised := by
  cases p <;> cases q <;> rfl

theorem State.started_raised (s : State) (p q : Port) :
    ((((s.begun p 0).started p).answerOk p).ports.get q).raised.headChange
        = ((s.ports.get q).raised.headChange || !(s.wakeRecords allHeads).isEmpty)
      ∧ ((((s.begun p 0).started p).answerOk p).ports.get q).raised.runChange = true := by
  rw [State.answerOk_raised, State.started_port]
  refine ⟨((s.begun p 0).portsWoken_headChange q).trans ?_, rfl⟩
  rw [State.begun_raised]
  rfl

theorem State.started_phase (s : State) {p q : Port} (other : q ≠ p) :
    ((((s.begun p 0).started p).answerOk p).ports.get q).phase = (s.ports.get q).phase := by
  have answered : ((((s.begun p 0).started p).answerOk p).ports.get q) = ((s.begun p 0).started p).ports.get q :=
    PerPort.get_set_ne _ _ other
  have begun : (s.begun p 0).ports.get q = s.ports.get q := PerPort.get_set_ne _ _ other
  rw [answered, State.started_port, ← begun]
  exact (s.begun p 0).portsWoken_phase q

/-- R164: the records of START are those of the heads and of the lane map unit. -/
theorem State.startOffers_writer (s : State) : ∀ o ∈ s.startOffers, o.writer ≠ .runControl := by
  intro o mem
  rcases List.mem_append.mp mem with woken | switched
  · obtain ⟨h, -, rfl⟩ := List.mem_map.mp woken
    nofun
  · unfold LaneMap.switchOffers at switched
    split at switched
    · cases switched
    · obtain ⟨side, -, rfl⟩ := List.mem_map.mp switched
      nofun

/-- R164: START at rest in STANDBY, with nothing to refuse it for. -/
theorem exec_start_begins {s : State} {p : Port} (taken : s.takes p) (standby : s.runState = .standby)
    (enabled : ∃ h : HeadId, (s.head h).geometry.enabled = true) (valid : ¬∃ side, s.startBanksValid side = false)
    (rests : s.restsOutsideRuns) : exec (.start p []) s = .next (((s.begun p 0).started p).answerOk p) := by
  rw [exec_start_taken taken, if_neg (not_not_intro standby),
    if_neg ((noHeadEnabled_iff s).not.mpr (not_not_intro enabled)), if_neg ((banksRefused_iff s).not.mpr valid),
    State.startRun_eq (by exact standby) (by exact rests)]

end Sys2Proof.Machine

open Sys2Proof Sys2Proof.Machine

/-- Settles O53: the checks stand in their order, and the state after START is that of its steps, one after the other. -/
theorem startBeginsRun : Obligations.StartBeginsRun := by
  intro s p taken enabled clashes invalid
  have banks : invalid ↔ ∃ side, s.startBanksValid side = false := by
    simp only [State.startBanksValid_eq_false_iff, bankValid_eq_false_iff]
    exact Iff.rfl
  have start := exec_start_taken taken
  refine ⟨fun running => ?state, fun standby off => ?noHeads, fun standby on bad => ?invalidMap,
    fun standby on ok rests => ?begins⟩
  case state => rw [start, if_pos running]
  case noHeads => rw [start, if_neg (not_not_intro standby), if_pos ((noHeadEnabled_iff s).mpr off)]
  case invalidMap =>
    rw [start, if_neg (not_not_intro standby), if_neg ((noHeadEnabled_iff s).not.mpr (not_not_intro on)),
      if_pos ((banksRefused_iff s).mpr (banks.mp bad))]
  case begins =>
    intro muted changes made
    let t := ((s.begun p 0).started p).answerOk p
    have at_rest := fun side => (rests side).2 (.inr standby)
    have head : ∀ h, t.head h = (s.head h).started := s.woken_head
    have changing : ∀ w : SwitchRecord, w.changes s.headless = changes w := fun w =>
      funext fun side => by cases side <;> rfl
    have offers : s.startOffers = made := by
      simp only [State.startOffers, LaneMap.switchOffers, made]
      cases s.lanes.switch with
      | none => rfl
      | some w =>
        dsimp only
        rw [changing w]
        rfl
    have waiting : t.store.waiting
        = s.store.waiting ++ ofStep .startRecords made
          ++ ofStep .startRun [runOffer s.pos.web .standby .inspecting (some p)] := by
      rw [← offers]
      exact (List.append_assoc ..).symm
    refine ⟨t, exec_start_begins taken standby on (banks.not.mp ok) rests, rfl, rfl, head, fun side => ?sides, waiting,
      fun some_made before => ?front, fun side => ?active, ?switch, ?arrivals, fun q => ?headChange, fun q => ?runChange,
      ?phase, ?held, rfl, ?recipes, ?banks, rfl⟩
    case sides =>
      obtain ⟨slots, -, inFlight, -, -, bins, -⟩ := at_rest side
      have asm : (t.asm.get side).slots = if s.hasHead side then [s.woken.newSlot side 0 s.pos.web] else [] := by
        rw [← s.woken_hasHead side]
        exact (congrArg Assembler.slots ((s.begun p 0).started_asm p side)).trans
          (State.triggeredAsm_slots (s := s.woken) slots 0 s.pos.web)
      refine ⟨bins, inFlight, fun none_on => asm.trans (if_neg (by simp [none_on])),
        fun some_on => ⟨_, asm.trans (if_pos some_on), ?_⟩⟩
      rw [← s.woken_headOn side]
      exact s.woken.newSlot_fields side 0 s.pos.web
    case front =>
      have follows : EventStep.startRecords ∈ EventStep.startRun.follows := by decide
      exact State.front_runControl_waits waiting rfl rfl follows (by decide) some_made before
        (offers ▸ s.startOffers_writer)
    case active =>
      refine (s.lanes.changedOverAt_active s.headless side).trans ?_
      cases s.lanes.switch with
      | none => rfl
      | some w =>
        dsimp only
        rw [changing w]
    case switch =>
      cases pending : s.lanes.switch with
      | none =>
        have kept : s.lanes.changedOverAt s.headless = s.lanes := by simp only [LaneMap.changedOverAt, pending]
        exact (congrArg LaneMap.switch kept).trans pending
      | some w => exact LaneMap.changedOverAt_switch s.headless pending
    case arrivals => exact (LaneMap.changedOverAt_rest ..).1
    case recipes => exact (LaneMap.changedOverAt_rest ..).2.1
    case banks => exact (LaneMap.changedOverAt_rest ..).2.2
    case headChange =>
      refine (s.started_raised p q).1.trans ?_
      rw [State.wakeRecords, List.isEmpty_map]
    case runChange => exact ⟨(s.started_raised p q).2, s.started_phase⟩
    case phase => exact congrArg PortState.phase (PerPort.get_set_same ..)
    case held => exact congrArg PortState.held (PerPort.get_set_same ..)
end

section
/-! SUPPORT. What every operation leaves of the queue of waiting commands (log 1): no rule of the part adds a command to it or
takes one from it, so each command completes with the queue that it found. -/

namespace Sys2Proof.Machine

section
variable (s : State)

/-! ### Records and lists -/

@[simp] theorem State.pending_offerAll (w : Writer) (made : List Made) : (s.offerAll w made).pending = s.pending := by
  rw [State.offerAll_eq]

@[simp] theorem State.pending_inStep (step : EventStep) (f : State → State) :
    (s.inStep step f).pending = (f s).pending := rfl
@[simp] theorem State.pending_answerOk (p : Port) : (s.answerOk p).pending = s.pending := rfl
@[simp] theorem State.pending_markTroubleRecord (side : Option Side) (lane : Option LaneId) (position : Position)
    (content : Content) : (s.markTroubleRecord side lane position content).pending = s.pending := rfl
@[simp] theorem State.pending_changeRunState (new : RunState) (port : Option Port) :
    (s.changeRunState new port).pending = s.pending := rfl

theorem State.pending_ite {s a b : State} {c : Prop} [Decidable c] (yes : a.pending = s.pending)
    (no : b.pending = s.pending) : (if c then a else b).pending = s.pending := by
  split
  · exact yes
  · exact no

/-- What every item of a list leaves of the queue, the list leaves of it. -/
theorem State.pending_foldl {α : Type} (f : State → α → State) (kept : ∀ s x, (f s x).pending = s.pending) (l : List α) :
    (l.foldl f s).pending = s.pending := by
  induction l generalizing s with
  | nil => rfl
  | cons x rest ih => rw [List.foldl_cons, ih, kept]

/-! ### Heads and packets (R19 to R36, R39) -/

@[simp] theorem State.pending_setHeadState (h : HeadId) (new : HeadState) (cause : HeadCause) :
    (s.setHeadState h new cause).pending = s.pending := by
  simp only [State.setHeadState]
  split <;> rfl

theorem State.pending_startHead (h : HeadId) : (s.startHead h).pending = s.pending := by
  unfold State.startHead
  split
  · exact State.pending_setHeadState ..
  · rfl
  · rfl

theorem State.pending_setHead (p : Port) (h : HeadId) (b : SetHeadBody) : (s.setHead p h b).pending = s.pending := by
  unfold State.setHead
  split
  · rfl
  · split
    · rfl
    · split_ifs
      · rfl
      · rfl
      · rw [State.pending_answerOk, State.applyEnable_eq, State.pending_setHeadState]
        rfl

theorem State.pending_accept (h : HeadId) (line : LineNo) (c : Contribution) :
    (s.accept h line c).pending = s.pending := by
  rw [State.accept_eq]
  refine (State.closeReady_frame _ _).pending.trans ?_
  rw [State.modAsm_pending]
  split
  · exact State.pending_setHeadState ..
  · rfl

theorem State.pending_takeHeader (h : HeadId) (hd : PacketHeader) (contribution : Nat → Contribution) :
    (s.takeHeader h hd contribution).pending = s.pending := by
  unfold State.takeHeader
  split
  · rfl
  · split
    · exact s.pending_accept ..
    all_goals rfl

theorem State.pending_takePacket (h : HeadId) (bytes : List Byte) (f : Nat → List Byte → Contribution) :
    (s.takePacket h bytes f).pending = s.pending := by
  unfold State.takePacket
  split
  · split
    · split
      · exact s.pending_takeHeader ..
      · exact (s.count h _).pending_takeHeader ..
      · rfl
    · rfl
  · rfl

theorem State.pending_waitExpiry (side : Side) (line : LineNo) : (s.waitExpiry side line).pending = s.pending := by
  unfold State.waitExpiry
  split
  · rfl
  · split
    · rfl
    · exact (State.closeReady_frame _ side).pending

/-! ### The position unit and the mark scheduler (R1 to R15, R146 to R149) -/

theorem State.pending_forwardCount : s.forwardCount.pending = s.pending := by
  obtain ⟨u, made, v, -, opens, counted⟩ := s.forwardCount_frame
  obtain ⟨markers, fired, result, -⟩ := v.fireAt_frame (s.pos.web + 1)
  rw [counted, result]
  exact opens.pending

theorem State.pending_loseOrders : s.loseOrders.pending = s.pending :=
  State.pending_foldl _ _ (fun s _ => s.pending_markTroubleRecord ..) _

theorem State.pending_backwardCount : s.backwardCount.pending = s.pending := by
  simp only [State.backwardCount]
  split
  · exact State.pending_loseOrders _
  · rfl

theorem State.pending_illegalTransition : s.illegalTransition.pending = s.pending := by
  unfold State.illegalTransition
  split <;> rfl

theorem State.pending_closeSkipped : s.closeSkipped.pending = s.pending := by
  unfold State.closeSkipped
  split <;> rfl

theorem State.pending_handOnSplice (capture arrival : Position) :
    (s.handOnSplice capture arrival).pending = s.pending := by
  rw [State.handOnSplice_eq]
  simp only [State.offerArrival_eq]
  rfl

theorem State.pending_considerRecord (r : Record) (flag : Option Bool) :
    (s.considerRecord r flag).pending = s.pending := by
  rcases s.considerRecord_cases r flag with ⟨orders, same⟩ | ⟨side, lane, position, content, same⟩ <;> rw [same] <;> rfl

theorem State.pending_place (c : Candidate) : (s.place c).1.pending = s.pending := by
  simp only [State.place]
  split_ifs <;> rfl

/-! ### The lane map unit (R57 to R65) -/

@[simp] theorem State.pending_changeOverIf (side : Side) (now : Bool) :
    (s.changeOverIf side now).pending = s.pending := by
  unfold State.changeOverIf
  split
  · split
    · simp only [State.changeOverAtOnce, State.pending_offerAll]
      rfl
    · rfl
  · rfl

@[simp] theorem State.pending_completeSwitch : s.completeSwitch.pending = s.pending := by
  unfold State.completeSwitch
  split
  · split <;> rfl
  · rfl

@[simp] theorem State.pending_changeOverHeadless : s.changeOverHeadless.pending = s.pending := by
  simp only [State.changeOverHeadless, State.pending_completeSwitch, State.pending_changeOverIf]

theorem State.pending_requestSwitch (w : SwitchRecord) : (s.requestSwitch w).pending = s.pending := by
  simp only [State.requestSwitch]
  split <;> simp

theorem State.pending_setLane (p : Port) (bank : Bank) (side : Side) (lane : LaneId) (b : SetLaneBody) :
    (s.setLane p bank side lane b).pending = s.pending := by
  unfold State.setLane
  split
  · rfl
  · split
    · rfl
    · simp only
      split_ifs <;> rfl

/-! ### The engines (R71 to R85, R108) -/

theorem State.pending_runOperation (side : Side) (line : LineEntry) :
    (s.runOperation side line).pending = s.pending := by
  obtain ⟨e, l, settled, -⟩ := s.stageChangeover_changeover side line.position
  rw [State.runOperation_eq, settled]
  rfl

theorem State.pending_reachEngine (p : Port) (side : Side) (c : EngineCommand) (body : List Byte) :
    (s.reachEngine p side c body).pending = s.pending := by
  unfold State.reachEngine
  split
  · rfl
  · obtain ⟨e, made, r, taken, -⟩ := s.takeEngineCommand_taken p side c body
    rw [taken]
    rfl

theorem State.pending_releaseLine (side : Side) : (s.releaseLine side).pending = s.pending := by
  have taken := State.foldl_takeHeld_taken side (s.eng.get side).held (s.released side)
  calc (s.releaseLine side).pending = ((s.releaseLine side).besidesHeld (s.released side)).pending := rfl
    _ = (s.released side).pending := congrArg State.pending taken.beyond

theorem State.pending_setSide (p : Port) (side : Side) (width : Nat) : (s.setSide p side width).pending = s.pending := by
  unfold State.setSide
  split_ifs <;> rfl

/-! ### The record store (R128 to R131, R137) -/

theorem State.pending_append (o : Offer) : (s.append o).pending = s.pending := by
  rw [State.append_eq, State.pending_considerRecord]
  rcases s.evictIfFull_cases with ⟨-, same⟩ | ⟨x, rest, -, -, evicted⟩
  · rw [same]
    rfl
  · rw [evicted]
    rfl

theorem State.pending_frontTaken (w : Writer) : (s.frontTaken w).pending = s.pending := by
  unfold State.frontTaken State.takeFront
  split
  · rfl
  · split <;> rfl

theorem State.pending_arbitrate : s.arbitrate.pending = s.pending := by
  unfold State.arbitrate
  split
  · rfl
  case h_2 w _ =>
    split
    · rfl
    · exact (State.pending_append _ _).trans (s.pending_frontTaken w)

theorem State.pending_setFilter (p : Port) (b : SetFilterBody) : (s.setFilter p b).pending = s.pending := by
  rw [s.setFilter_eq p b]
  rfl

/-! ### The ports (R154 to R157) -/

theorem State.pending_fetch (p : Port) (n : Nat) : (s.fetch p n).pending = s.pending := by
  unfold State.fetch
  split
  · rfl
  · split <;> rfl

/-! ### Run control (R162 to R167) -/

theorem State.pending_startRun (p : Port) : (s.startRun p).pending = s.pending := by
  have opens (u : State) : u.syncTrigger.pending = u.pending := (State.openSlots_frame (u.modPos _) _ _).pending
  rw [State.startRun, State.pending_answerOk, State.pending_inStep, State.pending_changeRunState, opens,
    State.pending_inStep, State.prepareStart, State.pending_changeOverHeadless, State.modEng_pending,
    State.modEng_pending]
  exact s.pending_foldl _ State.pending_startHead _

theorem State.pending_stopRun (p : Port) : (s.stopRun p).pending = s.pending := by
  rw [State.stopRun, State.pending_answerOk, State.pending_inStep, State.pending_changeRunState, State.pending_inStep,
    State.pending_closeSkipped]

theorem State.pending_closeCoverage (side : Side) : (s.closeCoverage side).pending = s.pending := by
  have closes (u : State) (h : HeadId) : (u.closeBlindRun side h).pending = u.pending := by
    rw [State.closeBlindRun_eq]
    rfl
  rw [State.closeCoverage, State.pending_foldl _ _ closes, State.closeDropRun_eq]

theorem State.pending_stopTeach (side : Side) : (s.stopTeach side).pending = s.pending := by
  unfold State.stopTeach
  split
  · rfl
  · rw [State.pending_offerAll, State.modEng_pending]

theorem State.pending_endDrain : s.endDrain.pending = s.pending := by
  simp only [State.endDrain, State.closingSteps, State.bothSides, State.truncateBlobs, State.stopStreaks,
    State.dropCandidates, State.clearBins, State.pending_inStep, State.pending_changeRunState, State.modEng_pending,
    State.pending_offerAll, State.pending_closeCoverage, State.pending_stopTeach]

end

/-! ### Port commands -/

theorem takeFrame_pending (s : State) (p : Port) (len : Nat) (act : State → State)
    (kept : ∀ u : State, (act u).pending = u.pending) : (takeFrame p len act s).pending = s.pending := by
  simp only [takeFrame]
  split_ifs
  · rfl
  · rfl
  · exact kept ((s.shiftFiller p (2 + len)).beginCommand p)

theorem takeCommand_pending {β : Type} (s : State) (p : Port) (body : List Byte) (read : List Byte → Option β)
    (act : β → State → State) (kept : ∀ b (u : State), (act b u).pending = u.pending) :
    (takeCommand p body read act s).pending = s.pending := by
  refine takeFrame_pending s p _ _ fun u => ?_
  split
  · rfl
  · exact kept _ u

/-! ### Every command -/

/-- Every command completes, and the queue stands as the command found it. -/
theorem exec_completes_pending (c : Instr) (s : State) : ∃ t, exec c s = .next t ∧ t.pending = s.pending := by
  cases c with
  | powerOn a b => exact ⟨_, rfl, rfl⟩
  | initEnd => exact ⟨_, rfl, State.pending_ite rfl rfl⟩
  | resetPin a b => exact ⟨_, rfl, State.pending_ite rfl rfl⟩
  | encoderEdge a b =>
    refine ⟨_, rfl, ?_⟩
    split
    · rfl
    · exact (s.holding a b).pending_forwardCount
    · exact (s.holding a b).pending_backwardCount
    · exact (s.holding a b).pending_illegalTransition
  | spliceEdge => exact ⟨_, rfl, State.pending_ite (State.pending_handOnSplice ..) rfl⟩
  | linkUp h => exact ⟨_, rfl, State.pending_ite rfl (State.pending_ite (State.pending_setHeadState ..) rfl)⟩
  | linkDown h => exact ⟨_, rfl, State.pending_ite (State.pending_ite (State.pending_setHeadState ..) rfl) rfl⟩
  | completePacket h bytes => exact ⟨_, rfl, s.pending_takePacket ..⟩
  | abortedPacket h bytes => exact ⟨_, rfl, s.pending_takePacket ..⟩
  | waitExpiry side line => exact ⟨_, rfl, s.pending_waitExpiry side line⟩
  | lineTake side =>
    refine ⟨_, rfl, ?_⟩
    split
    · exact State.pending_runOperation ..
    · rfl
  | lineOperationEnd side => exact ⟨_, rfl, State.pending_ite (s.pending_releaseLine side) rfl⟩
  | recordAppend => exact ⟨_, rfl, s.pending_arbitrate⟩
  | pulseEnd k =>
    refine ⟨_, rfl, ?_⟩
    split <;> rfl
  | mcfEdge k => exact ⟨_, rfl, rfl⟩
  | confirmWindowExpiry k =>
    refine ⟨_, rfl, ?_⟩
    split <;> rfl
  | staleTimerExpiry p =>
    refine ⟨_, rfl, ?_⟩
    split <;> rfl
  | drainEnd => exact ⟨_, rfl, State.pending_ite s.pending_endDrain rfl⟩
  | setHead p body =>
    refine ⟨_, rfl, takeCommand_pending s p body _ _ fun b u => ?_⟩
    split
    · rfl
    · exact u.pending_setHead ..
  | getHead p body =>
    refine ⟨_, rfl, takeCommand_pending s p body _ _ fun b u => ?_⟩
    split <;> rfl
  | setLine p body =>
    refine ⟨_, rfl, takeCommand_pending s p body _ _ fun b u => ?_⟩
    split_ifs <;> rfl
  | setCal p body =>
    refine ⟨_, rfl, takeCommand_pending s p body _ _ fun b u => ?_⟩
    split
    · rfl
    · exact u.pending_reachEngine ..
  | teach p body =>
    refine ⟨_, rfl, takeCommand_pending s p body _ _ fun b u => ?_⟩
    split
    · rfl
    · exact u.pending_reachEngine ..
  | teachAbort p body =>
    refine ⟨_, rfl, takeCommand_pending s p body _ _ fun b u => ?_⟩
    split
    · rfl
    · exact u.pending_reachEngine ..
  | setSide p body =>
    refine ⟨_, rfl, takeCommand_pending s p body _ _ fun b u => ?_⟩
    split
    · rfl
    · exact u.pending_setSide ..
  | setRecipe p body =>
    refine ⟨_, rfl, takeCommand_pending s p body _ _ fun b u => ?_⟩
    split
    · rfl
    · split <;> rfl
  | setLane p body =>
    refine ⟨_, rfl, takeCommand_pending s p body _ _ fun b u => ?_⟩
    split
    · exact u.pending_setLane ..
    · rfl
  | switchBank p body =>
    refine ⟨_, rfl, takeCommand_pending s p body _ _ fun b u => ?_⟩
    split
    · rfl
    · split_ifs
      · rfl
      · rfl
      · exact u.pending_requestSwitch _
  | cancelSwitch p body =>
    refine ⟨_, rfl, takeCommand_pending s p body _ _ fun b u => ?_⟩
    split <;> rfl
  | setMarker p body =>
    refine ⟨_, rfl, takeCommand_pending s p body _ _ fun b u => ?_⟩
    split
    · split <;> rfl
    · rfl
  | mark p body =>
    refine ⟨_, rfl, takeCommand_pending s p body _ _ fun b u => ?_⟩
    split
    · rfl
    · split_ifs
      · rfl
      · exact u.pending_place _
  | getMarker p body =>
    refine ⟨_, rfl, takeCommand_pending s p body _ _ fun b u => ?_⟩
    split <;> rfl
  | readRecords p body => exact ⟨_, rfl, takeCommand_pending s p body _ _ fun b u => rfl⟩
  | setFilter p body =>
    refine ⟨_, rfl, takeCommand_pending s p body _ _ fun b u => ?_⟩
    split
    · rfl
    · exact u.pending_setFilter p b
  | start p body =>
    refine ⟨_, rfl, takeCommand_pending s p body _ _ fun b u => ?_⟩
    split_ifs
    · rfl
    · rfl
    · rfl
    · exact u.pending_startRun p
  | stop p body =>
    refine ⟨_, rfl, takeCommand_pending s p body _ _ fun b u => ?_⟩
    split
    · rfl
    · exact u.pending_stopRun p
  | setNotices p body => exact ⟨_, rfl, takeCommand_pending s p body _ _ fun b u => rfl⟩
  | getNotice p body => exact ⟨_, rfl, takeCommand_pending s p body _ _ fun b u => rfl⟩
  | getStatus p body => exact ⟨_, rfl, takeCommand_pending s p body _ _ fun b u => rfl⟩
  | portReset p body => exact ⟨_, rfl, takeCommand_pending s p body _ _ fun b u => rfl⟩
  | fetch p n => exact ⟨_, rfl, s.pending_fetch p n⟩
  | unknownCommand p code body => exact ⟨_, rfl, State.pending_ite (takeFrame_pending s p _ _ fun u => rfl) rfl⟩
  | badFrame p code rest => exact ⟨_, rfl, State.pending_ite (State.pending_ite rfl rfl) rfl⟩

end Sys2Proof.Machine

open Sys2Proof Sys2Proof.Machine

/-- Settles O3, command by command: each block's operation leaves the queue as it is. -/
theorem everyCommandCompletesAndLeavesQueue : Obligations.EveryCommandCompletesAndLeavesQueue :=
  exec_completes_pending

/-- Settles O1: a queue with a front command puts the step in that case of its definition. -/
theorem stepTakesFrontCommand : Obligations.StepTakesFrontCommand := by
  intro s c rest front
  simp only [step, front]
end
